-- ==== Sys2Proof/Word.lean ====
section
/-! DEFINITION. The words the part reads and writes, the numbers it gives its records, and the one
operation that changes a whole table of records. -/

namespace Sys2Proof

/-- One byte on RXD, TXD or the pair. -/
abbrev Byte := BitVec 8

/-- A two-byte quantity: run count, cause mask, reload, CRC-16. -/
abbrev Half := BitVec 16

/-- The uptime counter and the stamps made from it (R159). -/
abbrev Stamp := BitVec 32

/-- A set of station addresses 0..30, bit n for station n (R178). -/
abbrev StationSet := BitVec 31

/-- A set of slots 0..23, bit n for slot n (R178). -/
abbrev SlotSet := BitVec 24

/-- Slots are numbered 0 to 23 (Conventions). -/
abbrev SlotId := Fin 24

/-- Station addresses 0 to 30 (Conventions). -/
abbrev StationId := Fin 31

/-- An address on the pair: 0 to 30 for a station, 31 for broadcast (R57). -/
abbrev Address := Fin 32

/-- Cadence timers 0 to 7 (Conventions). -/
abbrev TimerId := Fin 8

/-- A line level: number n stands for level 4 + n (Conventions). -/
abbrev LineId := Fin 4

/-- A soft level: number n stands for level 1 + n (Conventions). -/
abbrev SoftId := Fin 3

/-- The 24 slot numbers in ascending order. -/
def allSlots : List SlotId := List.finRange 24

/-- The 31 station addresses in ascending order. -/
def allStations : List StationId := List.finRange 31

/-- The four line levels in ascending order. -/
def allLines : List LineId := List.finRange 4

/-- The eight timers in ascending order. -/
def allTimers : List TimerId := List.finRange 8

/-- A table of records with one function applied to every record. -/
def mapAll {α β : Type} {n : Nat} (f : α → β) (v : Vector α n) : Vector β n :=
  ⟨⟨v.toList.map f⟩, by simp⟩

@[simp] theorem getElem_mapAll {α β : Type} {n : Nat} (f : α → β) (v : Vector α n) (k : Nat)
    (h : k < n) : (mapAll f v)[k] = f v[k] := by
  simp [mapAll]

end Sys2Proof
end

