-- ==== Sys2Proof/Syntax.lean ====
section
/-! DEFINITION. The commands: one constructor of `Instr` for each row of spec/opcode_table.json, and the
31 request kinds of TABLE 10-2 as the control port hands them to their owners. -/

namespace Sys2Proof

/-- The two dividers that give the time bases (R120). A tick of the fine divider is a BASE_10US tick and,
every tenth time, a BASE_100US tick. A tick of the millisecond divider advances the uptime counter. -/
inductive Divider where
  | fine
  | millisecond
deriving DecidableEq, Repr

/-- What storage has done to the check codes of a candidate's records since they were last written
(R2, R76): nothing, or the slot's code or the station entry's code no longer agrees (log 5). -/
inductive Upset where
  | none
  | slot
  | station
deriving DecidableEq, Repr

/-- An event that passes something to the report unit: alone, or in one moment with a crystal loss that the
report unit takes first (R165, R167; logs 36, 37). -/
inductive Meeting (α : Type) where
  | alone (event : α)
  | behindLoss (event : α)
deriving DecidableEq, Repr

/-- The two levels of RXD, TXD and the pair (R54, R56, R169). The idle level is that of a released line and
of a stop bit, the active level that of a start bit; the pins are active low (TABLE 11-9). -/
inductive LineLevel where
  | active
  | idle
deriving DecidableEq, Repr

/-- A character as its receiver samples it from the start found: the levels at the middles of its 8 data
bits, in the order in which they arrive, and of its stop bit (R56, R169). -/
structure Character where
  data : Vector LineLevel 8
  stop : LineLevel
deriving DecidableEq, Repr

/-- Samples of LRX in the 63 periods of a roll-call response, one a period (R69). -/
abbrev RollSamples := Vector LineLevel 63

/-- A request of TABLE 10-2 with the body of TABLE 11-4, its values not yet judged. -/
inductive Request where
  | loadSlot (slot station command priority retryLimit trigger options : Byte) (payload : List Byte)
  | releaseSlot (slot : Byte)
  | readSlot (slot : Byte)
  | start (slots : SlotSet)
  | abortSlot (slot : Byte)
  | abortAll
  | stepEnable
  | stepDisable
  | stepAdvance
  | enroll (station : Byte) (mask : Half)
  | withdraw (station : Byte)
  | restore (station : Byte)
  | setCauseMask (station : Byte) (mask : Half)
  | readStation (station : Byte)
  | setThreshold (threshold : Byte)
  | unmask (level : Byte)
  | raise (level : Byte)
  | setLoopAttention (level : Byte) (stations : BitVec 32) (cause : Byte)
  | readAttention
  | setTimer (timer source : Byte) (reload : Half) (softLevel flags : Byte)
  | readTimers (clearTallies : Byte)
  | setMode (target : Byte)
  | reset
  | clearCause
  | fetch (count : Byte)
  | readFault
  | clearFault
  | writeSettings (mask : Byte) (values : List Byte)
  | readSettings
  | identify
  | status
deriving DecidableEq, Repr

/-- The commands. The first 31 are host requests: the whole frame of the request, with the tag given
and a good CHECK, arrives at the control port (log 4). `unknownKind` is such a frame of another kind.
The rest are the events of the table. -/
inductive Instr where
  | loadSlot (tag slot station command priority retryLimit trigger options : Byte) (payload : List Byte)
  | releaseSlot (tag slot : Byte)
  | readSlot (tag slot : Byte)
  | start (tag : Byte) (slots : SlotSet)
  | abortSlot (tag slot : Byte)
  | abortAll (tag : Byte)
  | stepEnable (tag : Byte)
  | stepDisable (tag : Byte)
  | stepAdvance (tag : Byte)
  | enroll (tag station : Byte) (mask : Half)
  | withdraw (tag station : Byte)
  | restore (tag station : Byte)
  | setCauseMask (tag station : Byte) (mask : Half)
  | readStation (tag station : Byte)
  | setThreshold (tag threshold : Byte)
  | unmask (tag level : Byte)
  | raise (tag level : Byte)
  | setLoopAttention (tag level : Byte) (stations : BitVec 32) (cause : Byte)
  | readAttention (tag : Byte)
  | setTimer (tag timer source : Byte) (reload : Half) (softLevel flags : Byte)
  | readTimers (tag clearTallies : Byte)
  | setMode (tag target : Byte)
  | reset (tag : Byte)
  | clearCause (tag : Byte)
  | fetch (tag count : Byte)
  | readFault (tag : Byte)
  | clearFault (tag : Meeting Byte)
  | writeSettings (tag mask : Byte) (values : List Byte)
  | readSettings (tag : Byte)
  | identify (tag : Byte)
  | status (tag : Byte)
  /-- A frame with a good CHECK whose KIND is not a request kind (R173). -/
  | unknownKind (tag kind : Byte) (body : List Byte)
  /-- The character of the CHECK byte of the frame being collected arrives (R170, R171). -/
  | requestFrameComplete (check : Character)
  | replyEnd
  | interByteTimeout
  /-- The stop bit of a character on RXD samples at the active level, whatever its data bits (R169). -/
  | controlPortFramingError
  | lenOutOfRange (len : Character)
  | hostSilenceExpiry
  /-- A look of the dispatcher (R31 to R34): how LRX shows the pair at the start of the exchange, and
  what storage has done to the candidate's records. -/
  | takeCandidate (lineActive : Bool) (upset : Meeting Upset)
  | lineBecomesIdle
  | lineTestExpiry
  | commandSent
  | replyWindowExpiry
  | replyStart
  /-- The characters of the reply, from its start mark to its second CRC byte. -/
  | replyComplete (characters : List Character)
  | replyStall
  /-- The stop bit of a character of the reply samples at the active level, whatever its data bits (R56). -/
  | replyFramingError
  | replyNoStartMark (first : Character)
  | replyLengthAbove16 (lengthCharacter : Character)
  | rollCallOpening
  /-- The samples in the first bit time of each period, which are the slots' values, and in the second, which
  are the release checks (R69). -/
  | rollCallComplete (values checks : RollSamples)
  /-- The release check of `period` finds the line active (R70); no later sample has been taken. -/
  | rollCallBroken (period : Fin 63) (values checks : RollSamples)
  | broadcastGapExpiry
  | timerUnderflow (timer : TimerId)
  /-- The pin of the level passes to the level given (asserted or negated). -/
  | attentionLineChange (level : LineId) (asserted : Bool)
  | attentionFilterExpiry (level : LineId)
  | softAttentionReport (level : SoftId)
  | dormantCrystalStop
  | rxdActivity
  | wakeComplete
  | wakeCrystalTimeout
  | crystalLoss
  | crystalStable
  | startupCrystalStable
  | crystalStartTimeout
  | powerReset
  | powerResetDelayExpiry
  | pinReset
  | resetPinNegated
  | commandReset
  | timeBaseTick (divider : Divider)
  | requestByteReceived (character : Character)
  | supplyRisesAboveTripLevel
  | resetPinAsserted
deriving DecidableEq, Repr

end Sys2Proof
end

