-- ==== Sys2Proof/Machine/State.lean ====
section
/-! DEFINITION. The state of the part: every record, list, flag, counter and pin the spec gives it, as
plain data, and its value right after reset. -/

namespace Sys2Proof.Machine

/-! ## The control port (chapter 10) -/

/-- A request frame between its SYNC and its CHECK (TABLE 11-1). LEN is the body's length plus 2. -/
structure Frame where
  kind : Byte
  tag : Byte
  body : List Byte
  check : Byte
deriving DecidableEq, Repr

/-- The intake states of R170. In BODY: the LEN byte, and the bytes collected from KIND on. -/
inductive Intake where
  | search
  | length
  | body (len : Nat) (collected : List Byte)
deriving DecidableEq, Repr

/-- The overrun marker (R172). -/
structure Overrun where
  tag : Byte
  count : Nat
deriving DecidableEq, Repr

/-- The status codes of TABLE 10-3. -/
inductive Status where
  | ok | badCheck | unknownKind | badLength | badValue | mode | modePending | reportsFull | pending
  | halted | overrun | slotArmed | notLoaded | notArmed | inFlight | aborted | stationVacant
  | stationLost | stationBusy | enrolled | notLost | notStuck | notHeld
deriving DecidableEq, Repr

/-- A reply frame (TABLE 11-1): its kind byte, tag, status and body. -/
structure Reply where
  kind : Byte
  tag : Byte
  status : Status
  body : List Byte
deriving DecidableEq, Repr

/-- The link rates of TABLE 10-4. -/
inductive LinkRate where
  | kbit250 | kbit500 | mbit1 | mbit2
deriving DecidableEq, Repr

/-- The attention filter times of TABLE 10-4. -/
inductive FilterTime where
  | us0 | us4 | us16 | us64
deriving DecidableEq, Repr

/-- The settings record (TABLE 10-4), in the units of R179. Bit n of `wakeLevels` is the wake enable
flag of line level 4 + n (R97, R175; one home, log 22). -/
structure Settings where
  linkRate : LinkRate
  replyWindow : Nat
  broadcastGap : Nat
  filter : FilterTime
  hostTimeout : Nat
  wakeLevels : BitVec 4
deriving DecidableEq, Repr

/-! ## The mode controller (chapter 7) -/

/-- The six modes of TABLE 7-1. -/
inductive Mode where
  | configuration | run | hold | loopback | dormant | halted
deriving DecidableEq, Repr

/-- The wake sources of R148. -/
inductive WakeSource where
  | host
  | attention (level : LineId)
  | timer (timer : TimerId)
deriving DecidableEq, Repr

/-- The causes of a MODE report (R141). -/
inductive ModeCause where
  | request | hostSilent | wake | clock | link
deriving DecidableEq, Repr

/-! ## The slot table (chapter 1) -/

/-- The slot states of TABLE 1-2. -/
inductive SlotState where
  | empty | loaded | waiting | ready | active | done | failed | aborted
deriving DecidableEq, Repr

/-- The commands a slot may hold (TABLE 1-1). -/
inductive SlotCommand where
  | read | write | control | sync
deriving DecidableEq, Repr

/-- The outcomes of a run (TABLE 1-1). -/
inductive SlotOutcome where
  | ok | refused | busy | noReply | badReply | aborted | stationLost | internal
deriving DecidableEq, Repr

/-- A slot record (TABLE 1-1, R1). `trigger` is `none` for IMMEDIATE. `codeAgrees` stands for the check
code of R2: whether it agrees with the contents, which is all that any rule reads of it (log 5). -/
structure Slot where
  state : SlotState
  station : Address
  command : SlotCommand
  payload : List Byte
  priority : Fin 4
  retryLimit : Fin 8
  trigger : Option TimerId
  repeating : Bool
  failuresOnly : Bool
  attempts : Nat
  outcome : Option SlotOutcome
  refusal : Option Byte
  response : Option (List Byte)
  late : Nat
  run : Half
  abortPending : Bool
  abortTooLate : Bool
  codeAgrees : Bool
deriving DecidableEq, Repr

/-- The reset values of a slot record (R27). -/
def Slot.reset : Slot where
  state := .empty
  station := 0
  command := .write
  payload := []
  priority := 0
  retryLimit := 0
  trigger := none
  repeating := false
  failuresOnly := false
  attempts := 0
  outcome := none
  refusal := none
  response := none
  late := 0
  run := 0
  abortPending := false
  abortTooLate := false
  codeAgrees := true

/-! ## The link dispatcher and the link interface (chapters 2 and 3) -/

/-- The dispatcher states of TABLE 2-1. -/
inductive DispatcherState where
  | idle | busy | held | stopped
deriving DecidableEq, Repr

/-- The exchange kinds of TABLE 2-4. -/
inductive ExchangeKind where
  | slot | roll | cause | probe
deriving DecidableEq, Repr

/-- The command kinds of the pair (TABLE 11-7). -/
inductive LinkCommand where
  | read | write | control | sync | probe | cause | roll
deriving DecidableEq, Repr

/-- The phases of TABLE 2-5. -/
inductive Phase where
  | sending | awaiting | receiving | gap
deriving DecidableEq, Repr

/-- The exchange record (TABLE 2-4), with the payload that the link interface sends (R57). -/
structure Exchange where
  kind : ExchangeKind
  slot : Option SlotId
  station : Address
  level : Option LineId
  command : LinkCommand
  toggle : Bool
  phase : Phase
  stepPending : Bool
  payload : List Byte
deriving DecidableEq, Repr

/-- The verdicts of a roll call (R43). -/
inductive Verdict where
  | consistent | mismatch | garbled
deriving DecidableEq, Repr

/-- The outcomes of TABLE 2-6 with their particulars (R41). -/
inductive Outcome where
  | ack (payload : List Byte)
  | nak (reason : Byte)
  | busy
  | silent
  | garbled
  | echoMismatch
  | broadcastDone
  | rollResult (verdict : Verdict) (presence mirror : StationSet)
  | blocked
  | abandoned
deriving DecidableEq, Repr

/-- An answer the loop responder has formed (TABLE 3-7). -/
inductive LoopAnswer where
  | ack (payload : List Byte)
  | nak (reason : Byte)
  | roll (presence mirror : StationSet)
deriving DecidableEq, Repr

/-! ## The station table (chapter 4) -/

/-- The station states of TABLE 4-2. -/
inductive StationState where
  | vacant | probing | good | suspect | silenced | lost
deriving DecidableEq, Repr

/-- A station entry (TABLE 4-1). `identity` is the type code and the revision, present together (R75).
`codeAgrees` stands for the check code of R76 (log 5). -/
structure Station where
  state : StationState
  identity : Option (Byte × Byte)
  score : Nat
  toggle : Bool
  causeMask : BitVec 16
  lastCause : Option (Fin 16)
  armed : Nat
  probeFailures : Nat
  codeAgrees : Bool
deriving DecidableEq, Repr

/-- The reset values of a station entry (R94). -/
def Station.reset : Station where
  state := .vacant
  identity := none
  score := 0
  toggle := false
  causeMask := 0
  lastCause := none
  armed := 0
  probeFailures := 0
  codeAgrees := true

/-- The reasons of a STATION report (R91). -/
inductive StationReason where
  | score | probe | check
deriving DecidableEq, Repr

/-! ## The attention unit (chapter 5) -/

/-- The line-level states of TABLE 5-3. -/
inductive LineState where
  | quiet | pending | roll | serving | stuck
deriving DecidableEq, Repr

/-- A line-level record (TABLE 5-1) with the level's pin (true: asserted), its pin filter's own result
(R96), its loop set and loop cause. The flags `rollAttempt` and `readFailures` are the counts 0..1. -/
structure Line where
  state : LineState
  filtered : Bool
  rollAttempt : Bool
  serviceList : List StationId
  readFailures : Bool
  lastPresence : StationSet
  unionUsed : Bool
  pin : Bool
  pinFilter : Bool
  loopSet : StationSet
  loopCause : Fin 16
deriving DecidableEq, Repr

/-- The reset values of a line-level record (R118). The pin is an input: released here (log 14). -/
def Line.reset : Line where
  state := .quiet
  filtered := false
  rollAttempt := false
  serviceList := []
  readFailures := false
  lastPresence := 0
  unionUsed := false
  pin := false
  pinFilter := false
  loopSet := 0
  loopCause := 0

/-- The pending origins of a soft level (TABLE 5-2): bit 0 HOST, bits 1..8 TIMER 0..7 (R178). -/
abbrev Origins := BitVec 9

/-! ## The cadence timers (chapter 6) -/

/-- The sources of TABLE 6-2. -/
inductive TimerSource where
  | base10us | base100us | base1ms | base10ms | cascade
deriving DecidableEq, Repr

/-- A timer record (TABLE 6-1). `due` is the model's own: a base tick has found the count at 1 and its
underflow has not been taken yet (R122, log 8). -/
structure Timer where
  enabled : Bool
  source : TimerSource
  reload : Nat
  count : Nat
  oneShot : Bool
  tally : Nat
  softLevel : Fin 4
  wakeEnable : Bool
  due : Bool
deriving DecidableEq, Repr

/-- The reset values of a timer record (R135). -/
def Timer.reset : Timer where
  enabled := false
  source := .base1ms
  reload := 1
  count := 0
  oneShot := false
  tally := 0
  softLevel := 0
  wakeEnable := false
  due := false

/-! ## The report unit (chapter 9) -/

/-- The contents of a report after its stamp (R26, R91, R117, R52, R141). -/
inductive ReportBody where
  | completion (slot : SlotId) (station : Address) (command : SlotCommand) (outcome : SlotOutcome)
      (refusal : Option Byte) (response : Option (List Byte)) (attempts late : Nat) (run : Half)
      (abortTooLate : Bool)
  | station (station : StationId) (reason : StationReason) (old : Option StationState)
      (new : StationState) (score : Nat) (identity : Option (Byte × Byte)) (failed : List SlotId)
  | attnCause (level : LineId) (station : StationId) (cause : Fin 16) (detail : List Byte)
  /-- `last` is the last outcome, present with reason LINK and absent with reason LOST. -/
  | attnUnread (station : StationId) (levels : List LineId) (last : Option Outcome)
  | attnStuck (level : LineId) (identified : StationSet) (unionUsed : Bool)
  | attnSoft (level : SoftId) (origins : Origins)
  | step (kind : ExchangeKind) (slot : Option SlotId) (level : Option LineId) (station : Address)
      (outcome : Outcome)
  | mode (old new : Mode) (cause : ModeCause) (wake : Option WakeSource)
deriving DecidableEq, Repr

/-- A report: the uptime at its queueing and its contents (R160). -/
structure Report where
  stamp : Stamp
  body : ReportBody
deriving DecidableEq, Repr

/-- The fault kinds (Terms, TABLE 9-2). -/
inductive FaultKind where
  | crystalLost | linkStuck | tableCheck
deriving DecidableEq, Repr

/-- The fields of an occupied fault record (TABLE 9-2). -/
structure FaultRecord where
  kind : FaultKind
  stamp : Stamp
  mode : Mode
  dispatcher : DispatcherState
  exchangeKind : Option ExchangeKind
  slot : Option SlotId
  station : Option Address
  level : Option LineId
  retained : Bool
  second : Option FaultKind
deriving DecidableEq, Repr

/-! ## The clock and reset unit (chapter 8) -/

/-- The crystal (TABLE 8-1). -/
inductive Crystal where
  | off | starting | stable
deriving DecidableEq, Repr

/-- The clock source (TABLE 8-1). -/
inductive ClockSource where
  | crystal | lowSpeed
deriving DecidableEq, Repr

/-- The kinds of reset (R156). -/
inductive ResetCause where
  | power | pin | command
deriving DecidableEq, Repr

/-- How far the part is from a reset: the reset is held; start-up waits for the crystal (R158, step 3);
start-up has reached its step 6. -/
inductive StartUp where
  | inReset | waiting | done
deriving DecidableEq, Repr

/-- The supply as the monitor sees it (R156): below the trip level; risen, with the 1 ms delay running;
good. -/
inductive Supply where
  | below | delay | good
deriving DecidableEq, Repr

/-- The control port rates of TABLE 8-2. -/
inductive PortRate where
  | r115200 | r230400 | r460800 | r921600
deriving DecidableEq, Repr

/-- The state of the part and the queue of commands that wait for it. -/
structure State where
  /-- Commands waiting, first in, first out. -/
  pending : List Instr
  intake : Intake
  holding : List Frame
  overrun : Option Overrun
  /-- The reply leaving TXD; TXD is idle exactly while it is absent (R169). -/
  reply : Option Reply
  settings : Settings
  mode : Mode
  requested : Option Mode
  /-- The host-silence timer: stopped, or the milliseconds left; 0 is an expiry not yet taken. -/
  silence : Option Nat
  wake : Option WakeSource
  slots : Vector Slot 24
  ready : List SlotId
  dispatcher : DispatcherState
  exchange : Option Exchange
  stepEnable : Bool
  /-- The report reservation (R49), which is also the reserved count of R161. -/
  reserved : Nat
  /-- LDE (R54). -/
  lde : Bool
  /-- The command frame on LTX: the levels of its bit times, from the first start bit to the last stop bit
  (R54, R56). LTX is held at the idle level while it is absent. -/
  linkFrame : Option (List LineLevel)
  /-- The pair as LRX last showed it at a line test: active or idle (R54). -/
  lineActive : Bool
  loopAnswer : Option LoopAnswer
  stations : Vector Station 31
  lines : Vector Line 4
  soft : Vector Origins 3
  threshold : Fin 8
  timers : Vector Timer 8
  /-- BASE_10US ticks since the last BASE_100US tick (R120). -/
  fineDivider : Fin 10
  /-- The report queue, oldest first (R160). -/
  reports : List Report
  fault : Option FaultRecord
  /-- The model's own counter that makes free values fresh (log 18). -/
  freeCount : Nat
  crystal : Crystal
  clockSource : ClockSource
  monitorRunning : Bool
  lastCause : ResetCause
  supplyFlag : Bool
  uptime : Stamp
  startUp : StartUp
  supply : Supply
  /-- RESET#: true while asserted. -/
  resetPin : Bool
  pinResetHeld : Bool
  /-- RATE1 and RATE0: true while asserted. -/
  rate1Pin : Bool
  rate0Pin : Bool
  /-- The rate sampled at start-up (R158). -/
  portRate : PortRate
deriving DecidableEq, Repr

/-- No command faults: the spec gives every event an effect, and an event in a state where it cannot
occur has none (log 3). Nothing raises a fault, so no constructor stands here; that is safe. -/
inductive Fault where
deriving DecidableEq, Repr

/-- Reasons for which a command is refused. -/
inductive Refusal where
  /-- Raised by an arm of `exec` whose command has no meaning yet; no arm raises it now. Safe. -/
  | notModelled (mnemonic : String)
deriving DecidableEq, Repr

/-- The settings record after every reset (TABLE 10-4). -/
def Settings.reset : Settings where
  linkRate := .kbit500
  replyWindow := 20
  broadcastGap := 5
  filter := .us16
  hostTimeout := 0
  wakeLevels := 0

/-- The part right after a POWER reset: the reset has ended, and start-up waits for the crystal
(TABLE 8-1, R27, R29, R94, R118, R135, R136, R157, R158, R168, R174; logs 14 and 15). -/
def State.reset : State where
  pending := []
  intake := .search
  holding := []
  overrun := none
  reply := none
  settings := Settings.reset
  mode := .configuration
  requested := none
  silence := none
  wake := none
  slots := Vector.replicate 24 Slot.reset
  ready := []
  dispatcher := .stopped
  exchange := none
  stepEnable := false
  reserved := 0
  lde := false
  linkFrame := none
  lineActive := false
  loopAnswer := none
  stations := Vector.replicate 31 Station.reset
  lines := Vector.replicate 4 Line.reset
  soft := Vector.replicate 3 0
  threshold := 7
  timers := Vector.replicate 8 Timer.reset
  fineDivider := 0
  reports := []
  fault := none
  freeCount := 0
  crystal := .starting
  clockSource := .lowSpeed
  monitorRunning := false
  lastCause := .power
  supplyFlag := true
  uptime := 0
  startUp := .waiting
  supply := .good
  resetPin := false
  pinResetHeld := false
  rate1Pin := false
  rate0Pin := false
  portRate := .r115200

end Sys2Proof.Machine
end

