-- ==== Sys2Proof/Machine/Operands.lean ====
section
/-! DEFINITION. The encodings of chapters 10 and 11: byte order, check codes of the frames, code tables,
request bodies read and written, and the fields of a reply frame on the pair. -/

namespace Sys2Proof.Machine

/-! ## Bytes and words (R178) -/

/-- The low byte of a two-byte quantity. -/
def loByte (w : Half) : Byte := w.extractLsb' 0 8

/-- The high byte of a two-byte quantity. -/
def hiByte (w : Half) : Byte := w.extractLsb' 8 8

/-- A two-byte quantity as it is carried: least significant byte first. -/
def bytes16 (w : Half) : List Byte := [loByte w, hiByte w]

/-- The quantity two bytes carry, least significant byte first. -/
def half (lo hi : Byte) : Half := hi ++ lo

/-- A four-byte quantity or set as it is carried: least significant byte first. -/
def bytes32 (w : BitVec 32) : List Byte :=
  [w.extractLsb' 0 8, w.extractLsb' 8 8, w.extractLsb' 16 8, w.extractLsb' 24 8]

/-- The quantity or set four bytes carry. -/
def word32 (a b c d : Byte) : BitVec 32 := d ++ c ++ b ++ a

/-- A set of slots as it is carried: 3 bytes, bit n for slot n. -/
def bytes24 (w : SlotSet) : List Byte :=
  [w.extractLsb' 0 8, w.extractLsb' 8 8, w.extractLsb' 16 8]

/-- The set of slots three bytes carry. -/
def slotSet (a b c : Byte) : SlotSet := c ++ b ++ a

/-- A set of stations as it is carried: 4 bytes with bit 31 as 0. -/
def stationBytes (w : StationSet) : List Byte := bytes32 (w.setWidth 32)

/-- A number that fits one byte. -/
def byte (n : Nat) : Byte := BitVec.ofNat 8 n

/-- A flag as bit n of a flags byte. -/
def flagBit (b : Bool) (n : Nat) : Byte := if b then (1 : Byte) <<< n else 0

/-- An optional one-byte field: 0xFF when absent. -/
def optByte (o : Option Byte) : Byte := o.getD 0xFF

/-- The set of the slots in a list. -/
def slotsToSet (l : List SlotId) : SlotSet :=
  l.foldl (fun w i => w ||| ((1 : SlotSet) <<< i.val)) 0

/-! ## Characters (R56, R169) -/

/-- The level that carries a data bit: 1 at the idle level, 0 at the active level (log 34). -/
def dataLevel (bit : Bool) : LineLevel := if bit then .idle else .active

/-- The levels of one byte on a line, one for each of its 10 bit times: a start bit at the active level, 8
data bits, least significant first, a stop bit at the idle level. -/
def characterLevels (b : Byte) : List LineLevel :=
  .active :: ((List.finRange 8).map (fun k => dataLevel (b.getLsbD k.val)) ++ [.idle])

/-- The levels of bytes sent back to back, each start bit right after the stop bit before it. -/
def lineLevels (bytes : List Byte) : List LineLevel := bytes.flatMap characterLevels

/-- The character that a receiver samples from the levels of a byte. -/
def sampled (b : Byte) : Character where
  data := Vector.ofFn (fun k => dataLevel (b.getLsbD k.val))
  stop := .idle

/-- The byte that a character carries, least significant bit first. -/
def characterByte (c : Character) : Byte :=
  (List.finRange 8).foldl (fun w k => w ||| flagBit (decide (c.data[k] = .idle)) k.val) 0

/-- A character has a framing error where its stop bit samples at the active level. -/
def framingError (c : Character) : Bool := decide (c.stop = .active)

/-- The bytes of the characters that come before the first framing error. -/
def goodBytes (characters : List Character) : List Byte :=
  (characters.takeWhile (fun c => !framingError c)).map characterByte

/-! ## Check codes of frames -/

/-- A function applied eight times, once for each bit of a byte. -/
def eightTimes {α : Type} (f : α → α) (a : α) : α := f (f (f (f (f (f (f (f a)))))))

/-- One bit of the CRC-8 of R170: polynomial x^8+x^2+x+1. -/
def crc8Bit (r : Byte) : Byte := if r.msb then (r <<< 1) ^^^ 0x07 else r <<< 1

/-- The CRC-8 of R170: register from 0, each byte most significant bit first, no inversion. -/
def crc8 (bytes : List Byte) : Byte := bytes.foldl (fun r b => eightTimes crc8Bit (r ^^^ b)) 0

/-- One bit of the CRC-16 of R59: polynomial x^16+x^12+x^5+1. -/
def crc16Bit (r : Half) : Half := if r.msb then (r <<< 1) ^^^ 0x1021 else r <<< 1

/-- The CRC-16 of R59: register from all ones, each byte most significant bit first, no inversion. -/
def crc16 (bytes : List Byte) : Half :=
  bytes.foldl (fun r b => eightTimes crc16Bit (r ^^^ (b ++ (0 : Byte)))) 0xFFFF

/-! ## Code tables (TABLE 11-2, TABLE 11-3) -/

/-- TABLE 11-2. -/
def Status.code : Status → Byte
  | .ok => 0x00 | .badCheck => 0x01 | .unknownKind => 0x02 | .badLength => 0x03 | .badValue => 0x04
  | .mode => 0x05 | .modePending => 0x06 | .reportsFull => 0x07 | .pending => 0x08 | .halted => 0x09
  | .overrun => 0x0A | .slotArmed => 0x10 | .notLoaded => 0x11 | .notArmed => 0x12 | .inFlight => 0x13
  | .aborted => 0x14 | .stationVacant => 0x20 | .stationLost => 0x21 | .stationBusy => 0x22
  | .enrolled => 0x23 | .notLost => 0x24 | .notStuck => 0x30 | .notHeld => 0x31

/-- Mode codes. -/
def Mode.code : Mode → Byte
  | .configuration => 0 | .run => 1 | .hold => 2 | .loopback => 3 | .dormant => 4 | .halted => 5

/-- The mode a code names. -/
def Mode.ofCode (b : Byte) : Option Mode :=
  if b = 0 then some .configuration else if b = 1 then some .run else if b = 2 then some .hold
  else if b = 3 then some .loopback else if b = 4 then some .dormant else if b = 5 then some .halted
  else none

/-- Dispatcher state codes. -/
def DispatcherState.code : DispatcherState → Byte
  | .idle => 0 | .busy => 1 | .held => 2 | .stopped => 3

/-- Slot state codes. -/
def SlotState.code : SlotState → Byte
  | .empty => 0 | .loaded => 1 | .waiting => 2 | .ready => 3 | .active => 4 | .done => 5 | .failed => 6
  | .aborted => 7

/-- Slot outcome codes. -/
def SlotOutcome.code : SlotOutcome → Byte
  | .ok => 0 | .refused => 1 | .busy => 2 | .noReply => 3 | .badReply => 4 | .aborted => 5
  | .stationLost => 6 | .internal => 7

/-- Exchange outcome codes. -/
def Outcome.code : Outcome → Byte
  | .ack _ => 0 | .nak _ => 1 | .busy => 2 | .silent => 3 | .garbled => 4 | .echoMismatch => 5
  | .broadcastDone => 6 | .rollResult _ _ _ => 7 | .blocked => 8 | .abandoned => 9

/-- Roll verdict codes. -/
def Verdict.code : Verdict → Byte
  | .consistent => 0 | .mismatch => 1 | .garbled => 2

/-- Exchange kind codes. -/
def ExchangeKind.code : ExchangeKind → Byte
  | .slot => 0 | .roll => 1 | .cause => 2 | .probe => 3

/-- Slot command codes, which are the link kinds of TABLE 11-7. -/
def SlotCommand.code : SlotCommand → Byte
  | .read => 1 | .write => 2 | .control => 3 | .sync => 4

/-- The slot command a code names. -/
def SlotCommand.ofCode (b : Byte) : Option SlotCommand :=
  if b = 1 then some .read else if b = 2 then some .write else if b = 3 then some .control
  else if b = 4 then some .sync else none

/-- The link command a slot's command is sent as. -/
def SlotCommand.link : SlotCommand → LinkCommand
  | .read => .read | .write => .write | .control => .control | .sync => .sync

/-- Command kinds on the pair (TABLE 11-7). -/
def LinkCommand.code : LinkCommand → Byte
  | .read => 1 | .write => 2 | .control => 3 | .sync => 4 | .probe => 5 | .cause => 6 | .roll => 7

/-- Station state codes. -/
def StationState.code : StationState → Byte
  | .vacant => 0 | .probing => 1 | .good => 2 | .suspect => 3 | .silenced => 4 | .lost => 5

/-- STATION reason codes. -/
def StationReason.code : StationReason → Byte
  | .score => 0 | .probe => 1 | .check => 2

/-- Line-level state codes. -/
def LineState.code : LineState → Byte
  | .quiet => 0 | .pending => 1 | .roll => 2 | .serving => 3 | .stuck => 4

/-- MODE cause codes. -/
def ModeCause.code : ModeCause → Byte
  | .request => 0 | .hostSilent => 1 | .wake => 2 | .clock => 3 | .link => 4

/-- Wake source codes. -/
def WakeSource.code : WakeSource → Byte
  | .host => 0x00
  | .attention l => byte (0x14 + l.val)
  | .timer n => byte (0x20 + n.val)

/-- Fault kind codes. -/
def FaultKind.code : FaultKind → Byte
  | .crystalLost => 0 | .linkStuck => 1 | .tableCheck => 2

/-- Reset cause codes. -/
def ResetCause.code : ResetCause → Byte
  | .power => 0 | .pin => 1 | .command => 2

/-- Timer source codes. -/
def TimerSource.code : TimerSource → Byte
  | .base10us => 0 | .base100us => 1 | .base1ms => 2 | .base10ms => 3 | .cascade => 4

/-- The timer source a code names. -/
def TimerSource.ofCode (b : Byte) : Option TimerSource :=
  if b = 0 then some .base10us else if b = 1 then some .base100us else if b = 2 then some .base1ms
  else if b = 3 then some .base10ms else if b = 4 then some .cascade else none

/-- Link rate codes. -/
def LinkRate.code : LinkRate → Byte
  | .kbit250 => 0 | .kbit500 => 1 | .mbit1 => 2 | .mbit2 => 3

/-- The link rate a code names. -/
def LinkRate.ofCode (b : Byte) : Option LinkRate :=
  if b = 0 then some .kbit250 else if b = 1 then some .kbit500 else if b = 2 then some .mbit1
  else if b = 3 then some .mbit2 else none

/-- Attention filter codes. -/
def FilterTime.code : FilterTime → Byte
  | .us0 => 0 | .us4 => 1 | .us16 => 2 | .us64 => 3

/-- The attention filter a code names. -/
def FilterTime.ofCode (b : Byte) : Option FilterTime :=
  if b = 0 then some .us0 else if b = 1 then some .us4 else if b = 2 then some .us16
  else if b = 3 then some .us64 else none

/-- Trigger codes: 0..7 for TIMER n, 0xFF for IMMEDIATE. -/
def triggerCode (t : Option TimerId) : Byte :=
  match t with
  | none => 0xFF
  | some n => byte n.val

/-- The trigger a code names; `none` where the code is not assigned. -/
def triggerOfCode (b : Byte) : Option (Option TimerId) :=
  if b = 0xFF then some none
  else if h : b.toNat < 8 then some (some ⟨b.toNat, h⟩)
  else none

/-! ## Numbers in a body: the record a byte names, where there is one -/

/-- The slot a byte names: 0..23. -/
def slotOf (b : Byte) : Option SlotId := if h : b.toNat < 24 then some ⟨b.toNat, h⟩ else none

/-- The station a byte names: 0..30. -/
def stationOf (b : Byte) : Option StationId := if h : b.toNat < 31 then some ⟨b.toNat, h⟩ else none

/-- The address a byte names: 0..31. -/
def addressOf (b : Byte) : Option Address := if h : b.toNat < 32 then some ⟨b.toNat, h⟩ else none

/-- The timer a byte names: 0..7. -/
def timerOf (b : Byte) : Option TimerId := if h : b.toNat < 8 then some ⟨b.toNat, h⟩ else none

/-- The line level a byte names: 4..7. -/
def lineOf (b : Byte) : Option LineId :=
  if h : 4 ≤ b.toNat ∧ b.toNat < 8 then some ⟨b.toNat - 4, by omega⟩ else none

/-- The soft level a byte names: 1..3. -/
def softOf (b : Byte) : Option SoftId :=
  if h : 1 ≤ b.toNat ∧ b.toNat < 4 then some ⟨b.toNat - 1, by omega⟩ else none

/-- The station of an address; none for broadcast. -/
def Address.station? (a : Address) : Option StationId :=
  if h : a.val < 31 then some ⟨a.val, h⟩ else none

/-- The address of a station. -/
def stationAddress (st : StationId) : Address := st.castLE (by decide)

/-- A set of stations carried in 4 bytes, where bit 31 is 0 (R178). -/
def stationSetOf (w : BitVec 32) : Option StationSet :=
  if w.msb then none else some (w.setWidth 31)

/-! ## Request bodies (TABLE 11-4) -/

/-- The kinds of TABLE 10-2. -/
def Request.kind : Request → Byte
  | .loadSlot .. => 1 | .releaseSlot .. => 2 | .readSlot .. => 3 | .start .. => 4 | .abortSlot .. => 5
  | .abortAll => 6 | .stepEnable => 16 | .stepDisable => 17 | .stepAdvance => 18 | .enroll .. => 32
  | .withdraw .. => 33 | .restore .. => 34 | .setCauseMask .. => 35 | .readStation .. => 36
  | .setThreshold .. => 48 | .unmask .. => 49 | .raise .. => 50 | .setLoopAttention .. => 51
  | .readAttention => 52 | .setTimer .. => 64 | .readTimers .. => 65 | .setMode .. => 80 | .reset => 96
  | .clearCause => 97 | .fetch .. => 112 | .readFault => 113 | .clearFault => 114
  | .writeSettings .. => 120 | .readSettings => 121 | .identify => 122 | .status => 123

/-- The request kinds of TABLE 10-2; every other kind is answered UNKNOWN_KIND. -/
def isRequestKind (k : Byte) : Bool :=
  [1, 2, 3, 4, 5, 6, 16, 17, 18, 32, 33, 34, 35, 36, 48, 49, 50, 51, 52, 64, 65, 80, 96, 97, 112, 113,
    114, 120, 121, 122, 123].contains k.toNat

/-- The body of a request, in the order of TABLE 11-4. -/
def Request.body : Request → List Byte
  | .loadSlot n st c p r t o payload => [n, st, c, p, r, t, o] ++ payload
  | .releaseSlot n => [n]
  | .readSlot n => [n]
  | .start set => bytes24 set
  | .abortSlot n => [n]
  | .abortAll => []
  | .stepEnable => []
  | .stepDisable => []
  | .stepAdvance => []
  | .enroll st mask => st :: bytes16 mask
  | .withdraw st => [st]
  | .restore st => [st]
  | .setCauseMask st mask => st :: bytes16 mask
  | .readStation st => [st]
  | .setThreshold t => [t]
  | .unmask l => [l]
  | .raise l => [l]
  | .setLoopAttention l set c => l :: (bytes32 set ++ [c])
  | .readAttention => []
  | .setTimer n src reload soft flags => [n, src] ++ bytes16 reload ++ [soft, flags]
  | .readTimers c => [c]
  | .setMode t => [t]
  | .reset => []
  | .clearCause => []
  | .fetch n => [n]
  | .readFault => []
  | .clearFault => []
  | .writeSettings mask values => mask :: values
  | .readSettings => []
  | .identify => []
  | .status => []

/-- How many of the six settings fields a WRITE SETTINGS mask names (R179: bits 6 and 7 name none). -/
def namedCount (mask : Byte) : Nat := ((List.range 6).filter (fun k => mask.getLsbD k)).length

/-- A request with no body. -/
def noByte (r : Request) : List Byte → Option Request
  | [] => some r
  | _ => none

/-- A request of one byte. -/
def oneByte (f : Byte → Request) : List Byte → Option Request
  | [b] => some (f b)
  | _ => none

/-- A request of a byte and a quantity of two bytes. -/
def byteAndHalf (f : Byte → Half → Request) : List Byte → Option Request
  | [b, lo, hi] => some (f b (half lo hi))
  | _ => none

/-- START. -/
def readStart : List Byte → Option Request
  | [a, b, c] => some (.start (slotSet a b c))
  | _ => none

/-- SET LOOP ATTENTION. -/
def readSetLoopAttention : List Byte → Option Request
  | [l, a, b, c, d, cause] => some (.setLoopAttention l (word32 a b c d) cause)
  | _ => none

/-- SET TIMER. -/
def readSetTimer : List Byte → Option Request
  | [n, src, lo, hi, soft, flags] => some (.setTimer n src (half lo hi) soft flags)
  | _ => none

/-- LOAD SLOT: the payload is all the bytes after the seventh, 57 at most. -/
def readLoadSlot : List Byte → Option Request
  | n :: st :: c :: p :: r :: t :: o :: payload =>
    if payload.length ≤ 57 then some (.loadSlot n st c p r t o payload) else none
  | _ => none

/-- WRITE SETTINGS: one byte for each field that the mask names. -/
def readWriteSettings : List Byte → Option Request
  | mask :: values =>
    if values.length = namedCount mask then some (.writeSettings mask values) else none
  | [] => none

/-- The request a body of the given kind carries; `none` where the kind does not admit the body's
length (R173 test 3, R179), and for a kind that no request has. -/
def readBody (kind : Byte) (body : List Byte) : Option Request :=
  match kind.toNat with
  | 1 => readLoadSlot body
  | 2 => oneByte .releaseSlot body
  | 3 => oneByte .readSlot body
  | 4 => readStart body
  | 5 => oneByte .abortSlot body
  | 6 => noByte .abortAll body
  | 16 => noByte .stepEnable body
  | 17 => noByte .stepDisable body
  | 18 => noByte .stepAdvance body
  | 32 => byteAndHalf .enroll body
  | 33 => oneByte .withdraw body
  | 34 => oneByte .restore body
  | 35 => byteAndHalf .setCauseMask body
  | 36 => oneByte .readStation body
  | 48 => oneByte .setThreshold body
  | 49 => oneByte .unmask body
  | 50 => oneByte .raise body
  | 51 => readSetLoopAttention body
  | 52 => noByte .readAttention body
  | 64 => readSetTimer body
  | 65 => oneByte .readTimers body
  | 80 => oneByte .setMode body
  | 96 => noByte .reset body
  | 97 => noByte .clearCause body
  | 112 => oneByte .fetch body
  | 113 => noByte .readFault body
  | 114 => noByte .clearFault body
  | 120 => readWriteSettings body
  | 121 => noByte .readSettings body
  | 122 => noByte .identify body
  | 123 => noByte .status body
  | _ => none

/-- The CHECK of a request frame (R170): over LEN, KIND, TAG and BODY. -/
def frameCheck (kind tag : Byte) (body : List Byte) : Byte :=
  crc8 (byte (body.length + 2) :: kind :: tag :: body)

/-- A request frame with a good CHECK. -/
def goodFrame (kind tag : Byte) (body : List Byte) : Frame where
  kind := kind
  tag := tag
  body := body
  check := frameCheck kind tag body

/-! ## Frames on the pair (TABLE 11-7) -/

/-- The start mark of every frame on the pair. -/
def startMark : Byte := 0xC3

/-- The length field of a frame's toggle-and-length byte. -/
def lengthField (b : Byte) : Nat := (b &&& 0x7F).toNat

/-- A command frame (R57, R59): start mark, address and kind, toggle and length, payload, CRC-16 high
byte first. -/
def commandFrame (address : Address) (command : LinkCommand) (toggle : Bool) (payload : List Byte) :
    List Byte :=
  let covered := (byte address.val ||| (command.code <<< 5)) ::
    (flagBit toggle 7 ||| byte payload.length) :: payload
  startMark :: (covered ++ [hiByte (crc16 covered), loByte (crc16 covered)])

/-- The payload fit of R42, test 5: status code 0 ACK, 1 NAK, 2 BUSY. -/
def payloadFits (status : Byte) (command : LinkCommand) (payload : List Byte) : Bool :=
  if status = 1 then payload.length == 1
  else if status = 2 then payload.length == 0
  else match command with
    | .probe => payload.length == 2
    | .cause => match payload with
      | c :: detail => decide (c.toNat ≤ 15) && decide (detail.length ≤ 8)
      | [] => false
    | .read | .write | .control => decide (payload.length ≤ 16)
    | .sync | .roll => false

/-- The classification of a complete reply frame by the five tests of R42, in order. `b1` is the
address-and-status byte, `b2` the toggle-and-length byte, `crc` the CRC received. -/
def classifyFrame (x : Exchange) (b1 b2 : Byte) (payload : List Byte) (crc : Half) : Outcome :=
  let status := (b1 >>> 5) &&& 3
  if crc16 (b1 :: b2 :: payload) ≠ crc then .garbled
  else if (b1 &&& 0x1F).toNat ≠ x.station.val then .echoMismatch
  else if b2.msb ≠ x.toggle then .echoMismatch
  else if status = 3 then .garbled
  else if ¬ payloadFits status x.command payload then .garbled
  else if status = 1 then .nak (payload.headD 0)
  else if status = 2 then .busy
  else .ack payload

/-- The outcome that the characters of a reply give (R39, R62): GARBLED where the first is not the start
mark or the length field is above 16; `none` while the frame is not complete; otherwise the
classification of the frame, without any characters after it. -/
def classifyReply (x : Exchange) (bytes : List Byte) : Option Outcome :=
  match bytes with
  | [] => none
  | m :: rest =>
    if m ≠ startMark then some .garbled
    else match rest with
      | b1 :: b2 :: rest' =>
        if 16 < lengthField b2 then some .garbled
        else match rest'.drop (lengthField b2) with
          | hi :: lo :: _ => some (classifyFrame x b1 b2 (rest'.take (lengthField b2)) (half lo hi))
          | _ => none
      | _ => none

/-- The outcome that the characters of a reply fix (R56, R62): what the bytes before a framing error
give; where they do not yet make a frame, the framing error ends the exchange GARBLED. -/
def classifyCharacters (x : Exchange) (characters : List Character) : Option Outcome :=
  match classifyReply x (goodBytes characters) with
  | some o => some o
  | none => if characters.any framingError then some .garbled else none

/-! ## Roll-call words (R43, R69, R70, R103) -/

/-- The word whose slot n reads asserted exactly where `asserted` says so. -/
def wordOf (asserted : StationId → Bool) : StationSet :=
  allStations.foldl (fun w n => w ||| (if asserted n then (1 : StationSet) <<< n.val else 0)) 0

/-- The presence word: presence slot n is period n + 1, asserted where its first sample is at the active
level (R69). -/
def presenceWord (values : RollSamples) : StationSet :=
  wordOf (fun n => decide (values[n.val + 1] = .active))

/-- The mirror word: mirror slot k is period k + 32 (R69). -/
def mirrorWord (values : RollSamples) : StationSet :=
  wordOf (fun k => decide (values[k.val + 32] = .active))

/-- The first period whose release check finds the line at the active level (R70). -/
def firstBreak (checks : RollSamples) : Option (Fin 63) :=
  (List.finRange 63).find? (fun p => decide (checks[p] = .active))

/-- A word with its slots in the opposite order: slot k of the result is slot 30 - k of the word. -/
def mirrored (w : StationSet) : StationSet := w.reverse

/-- The verdict of R43 on two whole words: slot n of the presence word against slot 30 - n of the
mirror word, for every n. -/
def rollVerdict (presence mirror : StationSet) : Verdict :=
  if presence = mirrored mirror then .consistent else .mismatch

/-- The first k slots of a word as read, the rest negated. -/
def firstSlots (w : StationSet) (k : Nat) : StationSet :=
  w &&& BitVec.ofNat 31 (2 ^ k - 1)

/-- The words a roll broken in `period` carries (R70): the slots read in the periods before it. Presence
slot n is period n + 1 and mirror slot k is period k + 32 (R69). -/
def brokenWords (period : Fin 63) (presence mirror : StationSet) : StationSet × StationSet :=
  (firstSlots presence (min 31 (period.val - 1)), firstSlots mirror (period.val - 32))

/-- The outcome that the samples of a roll-call response fix: the verdict on both words once period 62 has
passed its release check (R69, R43), or GARBLED at the first check that fails (R70). -/
def rollOutcome (values checks : RollSamples) : Outcome :=
  let presence := presenceWord values
  let mirror := mirrorWord values
  match firstBreak checks with
  | none => .rollResult (rollVerdict presence mirror) presence mirror
  | some period =>
    let w := brokenWords period presence mirror
    .rollResult .garbled w.1 w.2

/-- The stations of a set, in ascending order. -/
def StationSet.members (w : StationSet) : List StationId :=
  allStations.filter (fun st => w.getLsbD st.val)

end Sys2Proof.Machine
end

