-- ==== Sys2Proof/WellFormed.lean ====
section
/-! DEFINITION. The checks on a command's operands: what the event of its row can carry. A host request
may carry any values its layout holds (the owner judges them); these checks bear on lengths and on
the characters by which an event is recognised. -/

namespace Sys2Proof

/-- The payload bytes of LOAD SLOT that TABLE 11-4 admits by length: 7..64 bytes in all. -/
def WellFormed.loadPayload (payload : List Byte) : Bool := decide (payload.length ≤ 57)

/-- WRITE SETTINGS carries one value for each field its mask names (TABLE 11-4). -/
def WellFormed.settingsValues (mask : Byte) (values : List Byte) : Bool :=
  values.length == Machine.namedCount mask

/-- UNKNOWN_KIND is of a kind outside TABLE 10-2. -/
def WellFormed.otherKind (kind : Byte) : Bool := !Machine.isRequestKind kind

/-- A frame's body is 0..64 bytes (R170). -/
def WellFormed.frameBody (body : List Byte) : Bool := decide (body.length ≤ 64)

/-- A row whose event is not a framing error carries a character whose stop bit samples idle (R56, R169). -/
def WellFormed.goodStop (c : Character) : Bool := !Machine.framingError c

/-- LEN_OUT_OF_RANGE carries a LEN outside 2..66 (R170). -/
def WellFormed.badLen (len : Byte) : Bool := decide (len.toNat < 2) || decide (66 < len.toNat)

/-- REPLY_NO_START_MARK carries a byte that is not the start mark (R62). -/
def WellFormed.notMark (first : Byte) : Bool := first != Machine.startMark

/-- REPLY_LENGTH_ABOVE_16 carries a byte whose length field is above 16 (R62). -/
def WellFormed.longLength (b : Byte) : Bool := decide (16 < Machine.lengthField b)

/-- REPLY_COMPLETE carries a whole frame: start mark, two header bytes, the payload its length field
announces (at most 16 bytes) and two CRC bytes (R60). -/
def WellFormed.wholeReply (bytes : List Byte) : Bool :=
  match bytes with
  | m :: _ :: b2 :: rest =>
    m == Machine.startMark && decide (Machine.lengthField b2 ≤ 16) &&
      rest.length == Machine.lengthField b2 + 2
  | _ => false

/-- ROLL_CALL_COMPLETE: every period has passed its release check (R69). -/
def WellFormed.released (checks : RollSamples) : Bool := decide (Machine.firstBreak checks = none)

/-- ROLL_CALL_BROKEN: the first failed release check is that of its period (R70). -/
def WellFormed.breaksIn (period : Fin 63) (checks : RollSamples) : Bool :=
  decide (Machine.firstBreak checks = some period)

/-- The check on a command. Every constructor is listed. -/
def Instr.wellFormed : Instr → Bool
  | .loadSlot _ _ _ _ _ _ _ _ payload => WellFormed.loadPayload payload
  | .releaseSlot _ _ => true
  | .readSlot _ _ => true
  | .start _ _ => true
  | .abortSlot _ _ => true
  | .abortAll _ => true
  | .stepEnable _ => true
  | .stepDisable _ => true
  | .stepAdvance _ => true
  | .enroll _ _ _ => true
  | .withdraw _ _ => true
  | .restore _ _ => true
  | .setCauseMask _ _ _ => true
  | .readStation _ _ => true
  | .setThreshold _ _ => true
  | .unmask _ _ => true
  | .raise _ _ => true
  | .setLoopAttention _ _ _ _ => true
  | .readAttention _ => true
  | .setTimer _ _ _ _ _ _ => true
  | .readTimers _ _ => true
  | .setMode _ _ => true
  | .reset _ => true
  | .clearCause _ => true
  | .fetch _ _ => true
  | .readFault _ => true
  | .clearFault _ => true
  | .writeSettings _ mask values => WellFormed.settingsValues mask values
  | .readSettings _ => true
  | .identify _ => true
  | .status _ => true
  | .unknownKind _ kind body => WellFormed.otherKind kind && WellFormed.frameBody body
  | .requestFrameComplete check => WellFormed.goodStop check
  | .replyEnd => true
  | .interByteTimeout => true
  | .controlPortFramingError => true
  | .lenOutOfRange len =>
    WellFormed.goodStop len && WellFormed.badLen (Machine.characterByte len)
  | .hostSilenceExpiry => true
  | .takeCandidate _ _ => true
  | .lineBecomesIdle => true
  | .lineTestExpiry => true
  | .commandSent => true
  | .replyWindowExpiry => true
  | .replyStart => true
  | .replyComplete characters =>
    characters.all WellFormed.goodStop && WellFormed.wholeReply (characters.map Machine.characterByte)
  | .replyStall => true
  | .replyFramingError => true
  | .replyNoStartMark first =>
    WellFormed.goodStop first && WellFormed.notMark (Machine.characterByte first)
  | .replyLengthAbove16 c =>
    WellFormed.goodStop c && WellFormed.longLength (Machine.characterByte c)
  | .rollCallOpening => true
  | .rollCallComplete _ checks => WellFormed.released checks
  | .rollCallBroken period _ checks => WellFormed.breaksIn period checks
  | .broadcastGapExpiry => true
  | .timerUnderflow _ => true
  | .attentionLineChange _ _ => true
  | .attentionFilterExpiry _ => true
  | .softAttentionReport _ => true
  | .dormantCrystalStop => true
  | .rxdActivity => true
  | .wakeComplete => true
  | .wakeCrystalTimeout => true
  | .crystalLoss => true
  | .crystalStable => true
  | .startupCrystalStable => true
  | .crystalStartTimeout => true
  | .powerReset => true
  | .powerResetDelayExpiry => true
  | .pinReset => true
  | .resetPinNegated => true
  | .commandReset => true
  | .timeBaseTick _ => true
  | .requestByteReceived c => WellFormed.goodStop c
  | .supplyRisesAboveTripLevel => true
  | .resetPinAsserted => true

/-- A request carries what its kind's layout admits (TABLE 11-4). -/
def Request.wellFormed : Request → Bool
  | .loadSlot _ _ _ _ _ _ _ payload => WellFormed.loadPayload payload
  | .writeSettings mask values => WellFormed.settingsValues mask values
  | .releaseSlot _ | .readSlot _ | .start _ | .abortSlot _ | .abortAll | .stepEnable | .stepDisable
  | .stepAdvance | .enroll _ _ | .withdraw _ | .restore _ | .setCauseMask _ _ | .readStation _
  | .setThreshold _ | .unmask _ | .raise _ | .setLoopAttention _ _ _ | .readAttention
  | .setTimer _ _ _ _ _ | .readTimers _ | .setMode _ | .reset | .clearCause | .fetch _ | .readFault
  | .clearFault | .readSettings | .identify | .status => true

end Sys2Proof
end

