-- ==== Sys2Proof/Config.lean ====
section
/-! DEFINITION. What an implementation fixes and the free values: constants with no body, so that no
proof can see what they are. -/

namespace Sys2Proof

/-- The silicon revision less 1: R176 gives the revision as 1..255 and no value (log 17). -/
opaque Config.revisionLessOne : Fin 255

/-- The type code and revision bytes written in a STATION report record that carries none. TABLE 11-6
keeps their places and says only that they are not read (log 18). The argument is a counter of
`State`, so each record has values of its own. -/
opaque Config.stationFiller : Nat → Byte × Byte

/-- The silicon revision as IDENTIFY returns it (R176). -/
def Config.revision : Byte := BitVec.ofNat 8 (Config.revisionLessOne.val + 1)

end Sys2Proof
end

