-- ==== Sys2Proof/Machine/Flags.lean ====
section
/-! DEFINITION. The questions that the rules ask of the state: armed, held, eligible, occupied, in
flight, taking frames. -/

namespace Sys2Proof.Machine

/-! ## Slots (chapter 1) -/

/-- Armed: WAITING, READY or ACTIVE (TABLE 1-2). -/
def SlotState.armed : SlotState → Bool
  | .waiting | .ready | .active => true
  | .empty | .loaded | .done | .failed | .aborted => false

/-- WAITING or READY: the armed states outside an exchange (R21, R24, R25). -/
def SlotState.waits : SlotState → Bool
  | .waiting | .ready => true
  | .empty | .loaded | .active | .done | .failed | .aborted => false

/-- A READY slot is held while its station is PROBING, or SILENCED and the slot's priority is 0, 1 or 2;
a broadcast slot never is (R6). -/
def State.held (s : State) (i : SlotId) : Bool :=
  match Address.station? s.slots[i].station with
  | none => false
  | some st =>
    match s.stations[st].state with
    | .probing => true
    | .silenced => decide (s.slots[i].priority.val < 3)
    | .vacant | .good | .suspect | .lost => false

/-- The slots in WAITING, READY or ACTIVE, counted (R177). -/
def State.armedSlots (s : State) : Nat :=
  (allSlots.filter (fun i => s.slots[i].state.armed)).length

/-! ## Reports (chapter 9) -/

/-- A report of the system class is a MODE report; every other report is of the exchange class
(TABLE 9-1). -/
def Report.isSystem (r : Report) : Bool :=
  match r.body with
  | .mode .. => true
  | _ => false

/-- Exchange occupied (R161). -/
def State.exchangeOccupied (s : State) : Nat := (s.reports.filter (fun r => !r.isSystem)).length

/-- System occupied (R161). -/
def State.systemOccupied (s : State) : Nat := (s.reports.filter Report.isSystem).length

/-- ATTN# is asserted exactly while the report queue is non-empty or the fault record is occupied
(R163). -/
def State.attn (s : State) : Bool := !s.reports.isEmpty || s.fault.isSome

/-! ## Mode and dispatcher (chapters 2 and 7) -/

/-- RUN and LOOPBACK, the modes in which the link carries exchanges (R30). -/
def Mode.traffic : Mode → Bool
  | .run | .loopback => true
  | .configuration | .hold | .dormant | .halted => false

/-- Is an exchange in flight? Exactly while the dispatcher is BUSY (R36). -/
def State.inFlight (s : State) : Bool := decide (s.dispatcher = .busy)

/-- Is an exchange in flight to station st (R36)? -/
def State.inFlightTo (s : State) (st : StationId) : Bool :=
  s.inFlight && match s.exchange with
    | some x => decide (x.station = stationAddress st)
    | none => false

/-- The first four conditions to start an exchange (R30); the fifth is that a candidate is offered. -/
def State.canStart (s : State) : Bool :=
  s.mode.traffic && s.requested.isNone && decide (s.dispatcher = .idle) &&
    decide (s.exchangeOccupied + s.reserved ≤ 25)

/-! ## Attention (chapter 5) -/

/-- A line level is eligible while its number is above the threshold (R98). -/
def State.lineEligible (s : State) (l : LineId) : Bool := decide (s.threshold.val < 4 + l.val)

/-- A soft level is eligible while its number is above the threshold (R98). -/
def State.softEligible (s : State) (l : SoftId) : Bool := decide (s.threshold.val < 1 + l.val)

/-- The wake enable flag of a line level, which is its bit of the wake levels setting (R97, R175). -/
def State.wakeEnable (s : State) (l : LineId) : Bool := s.settings.wakeLevels.getLsbD l.val

/-- The state of a level in which an exchange or a roll call is due (R100, R115). -/
def LineState.calling : LineState → Bool
  | .pending | .roll | .serving => true
  | .quiet | .stuck => false

/-- Is attention service outstanding (R115)? -/
def State.attentionOutstanding (s : State) : Bool :=
  allLines.any (fun l => s.lineEligible l && s.lines[l].state.calling) ||
    s.soft.toList.any (fun o => o != 0)

/-- The gate of a SOFT report (R112). -/
def State.softAdmitted (s : State) (l : SoftId) : Bool :=
  s.soft[l] != 0 && s.softEligible l && decide (s.mode ≠ .dormant) && decide (s.mode ≠ .halted) &&
    decide (s.exchangeOccupied + s.reserved ≤ 27)

/-- The filters run from start-up's step 6 on, in every mode but HALTED (R95, R118). -/
def State.filtersRun (s : State) : Bool := decide (s.startUp = .done) && decide (s.mode ≠ .halted)

/-- The filter time is 0: clock source CRYSTAL with the attention filter field at 0 us (R95). -/
def State.filterTimeZero (s : State) : Bool :=
  decide (s.clockSource = .crystal) && decide (s.settings.filter = .us0)

/-! ## Clocks and the control port (chapters 8 and 10) -/

/-- The receiver takes characters for frames: start-up done, clock source CRYSTAL, mode not DORMANT
(R169). -/
def State.takesFrames (s : State) : Bool :=
  decide (s.startUp = .done) && decide (s.clockSource = .crystal) && decide (s.mode ≠ .dormant)

/-- A frame that completes now is taken at once: the receiver takes frames, TXD is idle, and neither a
frame nor the marker is held (R169, R171). -/
def State.takesAtOnce (s : State) : Bool :=
  s.takesFrames && s.reply.isNone && s.holding.isEmpty && s.overrun.isNone

/-- The base of a source runs (TABLE 6-3): the fine bases with the crystal as clock source, the
millisecond bases on either clock; none while a reset is held or in HALTED. CASCADE has no base. -/
def State.baseRuns (s : State) (src : TimerSource) : Bool :=
  decide (s.startUp ≠ .inReset) && decide (s.mode ≠ .halted) &&
    match src with
    | .base10us | .base100us => decide (s.clockSource = .crystal)
    | .base1ms | .base10ms => true
    | .cascade => false

/-- The host-silence timer's start value: stopped with a host timeout of 0, otherwise the timeout in
milliseconds (R142). -/
def Settings.silenceStart (t : Settings) : Option Nat :=
  if t.hostTimeout = 0 then none else some (10 * t.hostTimeout)

/-- The requests that are taken in HALTED (R151, R173). -/
def Request.takenInHalted : Request → Bool
  | .identify | .status | .fetch _ | .readFault | .reset => true
  | .loadSlot .. | .releaseSlot _ | .readSlot _ | .start _ | .abortSlot _ | .abortAll | .stepEnable
  | .stepDisable | .stepAdvance | .enroll .. | .withdraw _ | .restore _ | .setCauseMask ..
  | .readStation _ | .setThreshold _ | .unmask _ | .raise _ | .setLoopAttention .. | .readAttention
  | .setTimer .. | .readTimers _ | .setMode _ | .clearCause | .clearFault | .writeSettings ..
  | .readSettings => false

/-- The reply is the OK reply of RESET, at whose end a COMMAND reset begins (R156). -/
def Reply.isReset (r : Reply) : Bool := r.kind == 0xE0 && decide (r.status = .ok)

/-- The reply is the ERROR reply that gives up the overrun marker (R172). -/
def Reply.isOverrun (r : Reply) : Bool := decide (r.status = .overrun)

end Sys2Proof.Machine
end

