-- ==== Sys2Proof/Machine/Ops.lean ====
section
/-! DEFINITION. The named operations over the state that the meanings are built from: writing one record
of a table, moving slots in the ready queue, queueing reports, telling the neighbours. -/

namespace Sys2Proof.Machine

/-- What a command answers. -/
abbrev Result := Host.Outcome State Fault Refusal

/-! ## Writing one record -/

/-- Write a slot record, with a check code that agrees (R2). -/
def State.writeSlot (s : State) (i : SlotId) (r : Slot) : State :=
  { s with slots := s.slots.set i { r with codeAgrees := true } }

/-- Write a station entry, with a check code that agrees (R76). -/
def State.writeStation (s : State) (st : StationId) (e : Station) : State :=
  { s with stations := s.stations.set st { e with codeAgrees := true } }

/-- Write a line-level record. -/
def State.writeLine (s : State) (l : LineId) (r : Line) : State :=
  { s with lines := s.lines.set l r }

/-- Write a timer record. -/
def State.writeTimer (s : State) (n : TimerId) (r : Timer) : State :=
  { s with timers := s.timers.set n r }

/-- Write a soft level's pending origins. -/
def State.writeSoft (s : State) (l : SoftId) (o : Origins) : State :=
  { s with soft := s.soft.set l o }

/-! ## Reports (R160, R161) -/

/-- Queue a report at the tail with the uptime as its stamp (R160). -/
def State.queueReport (s : State) (b : ReportBody) : State :=
  { s with reports := s.reports ++ [⟨s.uptime, b⟩] }

/-- Queue a report of an exchange or a taking: it uses one entry of the reservation (R49, R161). -/
def State.queueReserved (s : State) (b : ReportBody) : State :=
  { s with reports := s.reports ++ [⟨s.uptime, b⟩], reserved := s.reserved - 1 }

/-! ## Armed counts (R3, R78) -/

/-- A slot addressed to `a` has entered the armed states: its station's armed count rises by 1. -/
def State.raiseArmed (s : State) (a : Address) : State :=
  match Address.station? a with
  | none => s
  | some st => s.writeStation st { s.stations[st] with armed := s.stations[st].armed + 1 }

/-- A slot addressed to `a` has left the armed states: its station's armed count falls by 1. -/
def State.lowerArmed (s : State) (a : Address) : State :=
  match Address.station? a with
  | none => s
  | some st => s.writeStation st { s.stations[st] with armed := s.stations[st].armed - 1 }

/-! ## The ready queue (R4, R5) -/

/-- Join the queue at the back of the slot's own band: behind every slot of its priority or a higher
one (R5). -/
def State.joinBack (s : State) (i : SlotId) : State :=
  let ahead := fun j : SlotId => decide (s.slots[i].priority ≤ s.slots[j].priority)
  { s with ready := s.ready.takeWhile ahead ++ i :: s.ready.dropWhile ahead }

/-- Join the queue at the front of the slot's own band: behind every slot of a higher priority (R5). -/
def State.joinFront (s : State) (i : SlotId) : State :=
  let ahead := fun j : SlotId => decide (s.slots[i].priority < s.slots[j].priority)
  { s with ready := s.ready.takeWhile ahead ++ i :: s.ready.dropWhile ahead }

/-- Leave the queue. -/
def State.leaveQueue (s : State) (i : SlotId) : State := { s with ready := s.ready.erase i }

/-! ## Slot records -/

/-- A slot record with an outcome written: the refusal reason and the response follow the outcome, and
the run count rises by 1 (R1). -/
def Slot.withOutcome (r : Slot) (o : SlotOutcome) (refusal : Option Byte)
    (response : Option (List Byte)) : Slot :=
  { r with outcome := some o, refusal := refusal, response := response, run := r.run + 1 }

/-- A COMPLETION report of a slot, from the values it holds now (R26). A slot whose run has ended holds
an outcome. -/
def completionBody (i : SlotId) (r : Slot) : ReportBody :=
  .completion i r.station r.command (r.outcome.getD .ok) r.refusal r.response r.attempts r.late r.run
    r.abortTooLate

/-- Queue a slot's COMPLETION report within the reservation (R26). -/
def State.reportCompletion (s : State) (i : SlotId) : State :=
  s.queueReserved (completionBody i s.slots[i])

/-- End the armed life of a slot: write the record and lower its station's armed count. -/
def State.disarmTo (s : State) (i : SlotId) (r : Slot) : State :=
  (s.writeSlot i r).lowerArmed s.slots[i].station

/-- Fail one WAITING or READY slot of a lost station (R24). -/
def State.failLost (s : State) (i : SlotId) : State :=
  (s.leaveQueue i).disarmTo i
    ({ s.slots[i] with state := .failed }.withOutcome .stationLost none none)

/-- Is the slot WAITING or READY and addressed to the station? -/
def State.waitsFor (s : State) (st : StationId) (i : SlotId) : Bool :=
  s.slots[i].state.waits && decide (s.slots[i].station = stationAddress st)

/-- Fail every WAITING or READY slot addressed to a station that has gone LOST (R24). -/
def State.failSlotsOf (s : State) (st : StationId) : State :=
  allSlots.foldl (fun t i => if t.waitsFor st i then t.failLost i else t) s

/-- Disarm every WAITING or READY slot at entry to CONFIGURATION (R25). -/
def State.disarmAll (s : State) : State :=
  { allSlots.foldl
      (fun t i =>
        if t.slots[i].state.waits then t.disarmTo i { t.slots[i] with state := .loaded } else t) s
    with ready := [] }

/-! ## Line levels (R97, R99, R109) -/

/-- A level's record takes a change of its filtered line by its state (R99). -/
def Line.takeLine (r : Line) (v : Bool) : Line :=
  if r.filtered = v then r
  else { r with
    filtered := v
    state := match r.state with
      | .quiet => if v then .pending else .quiet
      | .pending => if v then .pending else .quiet
      | other => other }

/-- A level leaves SERVING, or is cleared at entry to CONFIGURATION: list empty, roll attempt and read
failures 0, PENDING if the filtered line is asserted and QUIET if released (R109, R114). -/
def Line.empties (r : Line) : Line :=
  { r with
    serviceList := []
    rollAttempt := false
    readFailures := false
    state := if r.filtered then .pending else .quiet }

/-- Remove a station from a level's service list; a head removed clears the read failures, and a list
left empty is taken by R109 (R108). -/
def Line.dropStation (r : Line) (st : StationId) : Line :=
  if st ∈ r.serviceList then
    if r.serviceList.erase st = [] then r.empties
    else { r with
      serviceList := r.serviceList.erase st
      readFailures := if r.serviceList.head? = some st then false else r.readFailures }
  else r

/-- The levels whose service list holds a station, in ascending order (R108). -/
def State.levelsListing (s : State) (st : StationId) : List LineId :=
  allLines.filter (fun l => decide (st ∈ s.lines[l].serviceList))

/-- Remove a station from every service list, with no report (R108, WITHDRAW). -/
def State.dropFromLists (s : State) (st : StationId) : State :=
  { s with lines := mapAll (fun r => r.dropStation st) s.lines }

/-- Remove a LOST station from every service list, with one UNREAD report of reason LOST if any held it
(R108). -/
def State.dropLost (s : State) (st : StationId) : State :=
  if s.levelsListing st = [] then s.dropFromLists st
  else (s.dropFromLists st).queueReserved (.attnUnread st (s.levelsListing st) none)

/-- At entry to CONFIGURATION a level in ROLL or SERVING is emptied; the others stand (R114). -/
def Line.enterConfiguration (r : Line) : Line :=
  match r.state with
  | .roll | .serving => r.empties
  | .quiet | .pending | .stuck => r

/-- On entry to LOOPBACK the loop sets are empty, so the filtered line becomes released (R96). -/
def Line.enterLoopback (r : Line) : Line := r.takeLine false

/-- On leaving LOOPBACK the loop set and cause are emptied and the filtered line takes its pin filter's
value (R96, R113). -/
def Line.leaveLoopback (r : Line) : Line :=
  { r with loopSet := 0, loopCause := 0 }.takeLine r.pinFilter

/-! ## Wake sources (R148) -/

/-- The crystal is started where it is off; a crystal not yet stopped runs on (R146, R148). -/
def Crystal.startedFromOff : Crystal → Crystal
  | .off => .starting
  | .starting => .starting
  | .stable => .stable

/-- A wake source told to the mode controller: the first taken in DORMANT is recorded and the crystal is
started; any other leaves the record as it stands (R148). -/
def State.tellWake (s : State) (w : WakeSource) : State :=
  if s.mode = .dormant ∧ s.wake = none then
    { s with wake := some w, crystal := s.crystal.startedFromOff }
  else s

/-- A change of a level's filtered line: taken by the record (R99) and, in DORMANT with the wake enable
set, an assertion is a wake source (R115). -/
def State.changeLine (s : State) (l : LineId) (v : Bool) : State :=
  let t := s.writeLine l (s.lines[l].takeLine v)
  if v && !s.lines[l].filtered && s.wakeEnable l then t.tellWake (.attention l) else t

/-- The pin filter of a level takes its pin. Outside LOOPBACK that is a change of the filtered line; in
LOOPBACK the result is held aside (R95, R96). -/
def State.filterTakes (s : State) (l : LineId) : State :=
  if s.lines[l].pin = s.lines[l].pinFilter then s
  else
    let t := s.writeLine l { s.lines[l] with pinFilter := s.lines[l].pin }
    if s.mode = .loopback then t else t.changeLine l s.lines[l].pin

/-- A change of filter time reaches the differences being timed (R95): with a time of 0 every difference
has lasted long enough and is taken at once. A difference under another time is judged by its expiry,
which is a command (log 12). -/
def State.retimeFilters (s : State) : State :=
  if s.filtersRun && s.filterTimeZero then allLines.foldl State.filterTakes s else s

/-! ## Soft levels (R112) -/

/-- The test of R112 on one soft level: with the gate open the SOFT report is queued and the origins
become empty. -/
def State.softTest (s : State) (l : SoftId) : State :=
  if s.softAdmitted l then (s.queueReport (.attnSoft l s.soft[l])).writeSoft l 0 else s

/-- The test on every soft level, from level 3 down to level 1, the room judged afresh before each
(R112). -/
def State.softTests (s : State) : State := ((s.softTest 2).softTest 1).softTest 0

/-- Add an origin to a soft level, and test the level at once (R111). -/
def State.addOrigin (s : State) (l : SoftId) (o : Origins) : State :=
  (s.writeSoft l (s.soft[l] ||| o)).softTest l

/-! ## The mode (R28, R139, R144, R151) -/

/-- The dispatcher is told of a change of mode (R28): on entry to RUN or LOOPBACK a STOPPED dispatcher
becomes IDLE; on leaving them an IDLE or HELD dispatcher becomes STOPPED; a BUSY one stays BUSY. -/
def DispatcherState.afterMode (d : DispatcherState) (old new : Mode) : DispatcherState :=
  if new.traffic then
    if old.traffic then d else (if d = .stopped then .idle else d)
  else (if d = .busy then .busy else .stopped)

/-- Queue a MODE report (R141). It takes no reserved entry. -/
def State.reportMode (s : State) (old new : Mode) (cause : ModeCause) (wake : Option WakeSource) :
    State :=
  s.queueReport (.mode old new cause wake)

/-- What entry to CONFIGURATION does to the slots and the levels (R139 step 4). -/
def State.onEntry (s : State) (new : Mode) : State :=
  if new = .configuration then
    { s.disarmAll with lines := mapAll Line.enterConfiguration s.disarmAll.lines }
  else s

/-- What crossing the border of LOOPBACK does to the filtered lines (R139 step 5, R96). -/
def State.onBorder (s : State) (old new : Mode) : State :=
  if old = .loopback ∧ new ≠ .loopback then { s with lines := mapAll Line.leaveLoopback s.lines }
  else if old ≠ .loopback ∧ new = .loopback then { s with lines := mapAll Line.enterLoopback s.lines }
  else s

/-- A change of mode among CONFIGURATION, RUN, HOLD and LOOPBACK, by request or forced: the six steps of
R139 (R143, R144 for the forced ones). -/
def State.changeMode (s : State) (new : Mode) (cause : ModeCause) : State :=
  let t := { s with
    mode := new
    requested := none
    silence := if new = Mode.run then s.settings.silenceStart else none
    dispatcher := s.dispatcher.afterMode s.mode new }
  ((t.onEntry new).onBorder s.mode new).reportMode s.mode new cause none

/-- A forced change to HOLD, from RUN or LOOPBACK only (R144). -/
def State.forceHold (s : State) (cause : ModeCause) : State :=
  if s.mode.traffic then s.changeMode .hold cause else s

/-- Entry to HALTED (R151), less the end of an exchange in flight: the requested mode is cleared, the
host-silence timer stops, the dispatcher is told, LDE is negated and the timers stop with no underflow
left to take (R134). The attention unit's records stay frozen as they stand (R114). -/
def State.enterHalted (s : State) : State :=
  { s with
    mode := .halted
    requested := none
    silence := none
    dispatcher := s.dispatcher.afterMode s.mode .halted
    lde := false
    linkFrame := none
    timers := mapAll (fun r : Timer => { r with due := false }) s.timers }

/-! ## Faults (R164, R165) -/

/-- The fault record of a fault, with the particulars the finding block gives. The exchange fields come
from an exchange record or a candidate, or are absent (R164). -/
def faultOf (kind : FaultKind) (stamp : Stamp) (mode : Mode) (d : DispatcherState)
    (x : Option Exchange) : FaultRecord where
  kind := kind
  stamp := stamp
  mode := mode
  dispatcher := d
  exchangeKind := x.map Exchange.kind
  slot := x.bind Exchange.slot
  station := x.map Exchange.station
  level := x.bind Exchange.level
  retained := false
  second := none

/-- A fault taken by the report unit, by the first matching case of R165: a third fault leaves the record;
an empty or retained record is written whole; otherwise it is a double fault, and the part enters HALTED
in the same step. The step of the block that found it goes on (R165, last part). -/
def State.takeFault (s : State) (f : FaultRecord) : State :=
  match s.fault with
  | none => { s with fault := some f }
  | some r =>
    if r.retained then { s with fault := some f }
    else if r.second.isSome then s
    else { s.enterHalted with fault := some { r with second := some f.kind } }

end Sys2Proof.Machine
end

