-- ==== Sys2Proof/Machine/Formats.lean ====
section
/-! DEFINITION. What the part writes on TXD: reply frames, reply bodies (R180) and report records
(R181). -/

namespace Sys2Proof.Machine

/-- What serving a request gives: the state it leaves, the reply's status and the reply's body. -/
abbrev Served := State × Status × List Byte

/-- A request taken with nothing to say but OK (R180, last line). -/
def accepted (s : State) : Served := (s, .ok, [])

/-- A request refused: the state as it stood and an empty body (Terms; R178, bodies of refusals). -/
def refused (s : State) (st : Status) : Served := (s, st, [])

/-- The bytes of a reply frame on TXD (TABLE 11-1). -/
def Reply.bytes (r : Reply) : List Byte :=
  let covered := byte (r.body.length + 3) :: r.kind :: r.tag :: r.status.code :: r.body
  0x5A :: (covered ++ [crc8 covered])

/-- The levels of a reply frame on TXD, its characters back to back (R169); TXD is at the idle level while
no reply is being sent. -/
def Reply.levels (r : Reply) : List LineLevel := lineLevels r.bytes

/-! ## Reply bodies -/

/-- READ SLOT (R10, R180): programming, history, flags, queue position, payload and response. -/
def State.slotBody (s : State) (i : SlotId) : List Byte :=
  let r := s.slots[i]
  let isReady := decide (r.state = .ready)
  [byte i.val, byte r.station.val, r.command.code, byte r.priority.val, byte r.retryLimit.val,
    triggerCode r.trigger, flagBit r.repeating 0 ||| flagBit r.failuresOnly 1,
    r.state.code, byte r.attempts, optByte (r.outcome.map SlotOutcome.code), r.refusal.getD 0,
    byte r.late] ++ bytes16 r.run ++
  [flagBit r.abortPending 0 ||| flagBit r.abortTooLate 1 ||| flagBit (isReady && s.held i) 2,
    if isReady then byte (s.ready.idxOf i) else 0xFF, byte r.payload.length] ++ r.payload ++
  byte (r.response.getD []).length :: r.response.getD []

/-- READ STATION (R83, R180). -/
def stationBody (e : Station) : List Byte :=
  [e.state.code, optByte (e.identity.map Prod.fst), optByte (e.identity.map Prod.snd), byte e.score,
    flagBit e.toggle 0] ++ bytes16 e.causeMask ++
  [optByte (e.lastCause.map (fun c => byte c.val)), byte e.armed, byte e.probeFailures,
    flagBit e.identity.isSome 0]

/-- One line level's record in READ ATTENTION (R116, R180). -/
def State.lineBody (s : State) (l : LineId) : List Byte :=
  let r := s.lines[l]
  [r.state.code, flagBit r.filtered 0, flagBit r.rollAttempt 0, flagBit r.readFailures 0] ++
  stationBytes r.lastPresence ++
  [flagBit r.unionUsed 0 ||| flagBit (s.wakeEnable l) 1, byte r.serviceList.length] ++
  r.serviceList.map (fun st => byte st.val) ++ stationBytes r.loopSet ++ [byte r.loopCause.val]

/-- A set of soft origins as it is carried (R178). -/
def originBytes (o : Origins) : List Byte := bytes16 (o.setWidth 16)

/-- READ ATTENTION (R116, R180). -/
def State.attentionBody (s : State) : List Byte :=
  [byte s.threshold.val] ++ s.lineBody 0 ++ s.lineBody 1 ++ s.lineBody 2 ++ s.lineBody 3 ++
  originBytes s.soft[0] ++ originBytes s.soft[1] ++ originBytes s.soft[2]

/-- One timer in READ TIMERS (R130, R180): elapsed count is reload less count. -/
def timerBody (r : Timer) : List Byte :=
  [r.source.code] ++ bytes16 (BitVec.ofNat 16 r.reload) ++ [byte r.softLevel.val,
    flagBit r.enabled 0 ||| flagBit r.oneShot 1 ||| flagBit r.wakeEnable 2] ++
  bytes16 (BitVec.ofNat 16 r.count) ++ bytes16 (BitVec.ofNat 16 (r.reload - r.count)) ++
  [byte r.tally, 0, 0]

/-- READ TIMERS (R130, R180): timers 0 to 7. -/
def State.timersBody (s : State) : List Byte := allTimers.flatMap (fun n => timerBody s.timers[n])

/-- READ SETTINGS (R175, R180), in the bit order and units of WRITE SETTINGS. -/
def settingsBody (t : Settings) : List Byte :=
  [t.linkRate.code, byte t.replyWindow, byte t.broadcastGap, t.filter.code, byte t.hostTimeout,
    t.wakeLevels ++ (0 : BitVec 4)]

/-- READ FAULT (R167, TABLE 11-5): empty when the record is empty. -/
def faultBody (f : Option FaultRecord) : List Byte :=
  match f with
  | none => []
  | some r => [r.kind.code] ++ bytes32 r.stamp ++ [r.mode.code, r.dispatcher.code,
      optByte (r.exchangeKind.map ExchangeKind.code), optByte (r.slot.map (fun i => byte i.val)),
      optByte (r.station.map (fun a => byte a.val)), optByte (r.level.map (fun l => byte (4 + l.val))),
      flagBit r.retained 0, optByte (r.second.map FaultKind.code)]

/-- IDENTIFY (R176, TABLE 11-5). -/
def State.identifyBody (s : State) : List Byte :=
  [0x34, 0x0C, Config.revision, 31, 24, 8, 32, s.lastCause.code,
    flagBit s.supplyFlag 0 ||| flagBit s.fault.isSome 1 |||
      flagBit (s.fault.any FaultRecord.retained) 2]

/-- STATUS (R177, TABLE 11-5). -/
def State.statusBody (s : State) : List Byte :=
  [s.mode.code, optByte (s.requested.map Mode.code), s.dispatcher.code,
    flagBit s.stepEnable 0 ||| flagBit s.fault.isSome 1, byte s.exchangeOccupied,
    byte s.systemOccupied, byte s.armedSlots, s.lines[0].state.code, s.lines[1].state.code,
    s.lines[2].state.code, s.lines[3].state.code,
    flagBit (s.soft[0] != 0) 1 ||| flagBit (s.soft[1] != 0) 2 ||| flagBit (s.soft[2] != 0) 3,
    byte s.threshold.val]

/-! ## Report records (TABLE 11-6) -/

/-- The kind byte and the fields of a report record after its header. `filler` gives the two bytes of a
STATION record that has no type code and revision (log 18). -/
def ReportBody.fields (filler : Byte × Byte) : ReportBody → Byte × List Byte
  | .completion i a c o refusal response attempts late run tooLate =>
    (1, [byte i.val, byte a.val, c.code, o.code, refusal.getD 0, byte attempts, byte late] ++
      bytes16 run ++ [flagBit tooLate 0, byte (response.getD []).length] ++ response.getD [])
  | .station st reason old new score identity failed =>
    (2, [byte st.val, reason.code, optByte (old.map StationState.code), new.code, byte score,
      (identity.getD filler).1, (identity.getD filler).2] ++ bytes24 (slotsToSet failed))
  | .attnCause l st c detail =>
    (3, [0, byte (4 + l.val), byte st.val, byte c.val, byte detail.length] ++ detail)
  | .attnUnread st levels last =>
    (3, [1, byte st.val, if last.isSome then 0 else 1,
      levels.foldl (fun w l => w ||| ((1 : Byte) <<< (4 + l.val))) 0,
      optByte (last.map Outcome.code)])
  | .attnStuck l set union => (3, [2, byte (4 + l.val)] ++ stationBytes set ++ [flagBit union 0])
  | .attnSoft l origins => (3, [3, byte (1 + l.val)] ++ originBytes origins)
  | .step kind slot level st o =>
    (4, [kind.code, optByte (slot.map (fun i => byte i.val)),
      optByte (level.map (fun l => byte (4 + l.val))), byte st.val, o.code,
      match o with | .nak r => r | _ => 0,
      match o with | .rollResult v _ _ => v.code | _ => 0xFF])
  | .mode old new cause wake =>
    (5, [old.code, new.code, cause.code, optByte (wake.map WakeSource.code)])

/-- A report record: kind, record length counting every byte, stamp, fields (R181). -/
def Report.record (filler : Byte × Byte) (r : Report) : List Byte :=
  let f := r.body.fields filler
  [f.1, byte (f.2.length + 6)] ++ bytes32 r.stamp ++ f.2

/-- The records of a list of reports; the k-th takes the k-th free value from `base` on (log 18). -/
def recordsFrom (base : Nat) : List Report → List Byte
  | [] => []
  | r :: rest => r.record (Config.stationFiller base) ++ recordsFrom (base + 1) rest

end Sys2Proof.Machine
end

