-- ==== Sys2Proof/Machine/Slots.lean ====
section
/-! DEFINITION. The slot table (chapter 1): the six slot requests, release by a timer, dispatch, and the
end of a slot's exchange. -/

namespace Sys2Proof.Machine

/-! ## Loading, releasing and reading (R7 to R10) -/

/-- The LOADED record of a LOAD SLOT whose fields pass the checks of R7 (but the slot number's), with
its history cleared (R8); `none` where a check fails. -/
def programmed (st c p r t o : Byte) (payload : List Byte) : Option Slot :=
  match addressOf st, SlotCommand.ofCode c, triggerOfCode t with
  | some a, some cmd, some trig =>
    if h : p.toNat < 4 ∧ r.toNat < 8 ∧ o.toNat < 4 ∧ payload.length ≤ 16 ∧
        ¬ (cmd = .sync ∧ a ≠ 31) ∧ ¬ (cmd = .read ∧ a = 31) ∧ ¬ (o.getLsbD 0 = true ∧ trig = none) then
      some { Slot.reset with
        state := .loaded
        station := a
        command := cmd
        payload := payload
        priority := ⟨p.toNat, h.1⟩
        retryLimit := ⟨r.toNat, h.2.1⟩
        trigger := trig
        repeating := o.getLsbD 0
        failuresOnly := o.getLsbD 1 }
    else none
  | _, _, _ => none

/-- LOAD SLOT (R7, R8). -/
def serveLoadSlot (n st c p r t o : Byte) (payload : List Byte) (s : State) : Served :=
  match slotOf n, programmed st c p r t o payload with
  | some i, some rec =>
    if s.slots[i].state.armed then refused s .slotArmed else accepted (s.writeSlot i rec)
  | _, _ => refused s .badValue

/-- RELEASE SLOT (R9). -/
def serveReleaseSlot (n : Byte) (s : State) : Served :=
  match slotOf n with
  | some i =>
    if s.slots[i].state.armed then refused s .slotArmed else accepted (s.writeSlot i Slot.reset)
  | none => refused s .badValue

/-- READ SLOT (R10). -/
def serveReadSlot (n : Byte) (s : State) : Served :=
  match slotOf n with
  | some i => (s, .ok, s.slotBody i)
  | none => refused s .badValue

/-! ## Starting (R11, R12) -/

/-- The first condition of R11 that a slot of the set fails, in the order given. -/
def State.startRefusal (s : State) (i : SlotId) : Option Status :=
  if s.slots[i].state = .empty then some .notLoaded
  else if s.slots[i].state.armed then some .slotArmed
  else match Address.station? s.slots[i].station with
    | none => none
    | some st =>
      if s.stations[st].state = .vacant then some .stationVacant
      else if s.stations[st].state = .lost then some .stationLost
      else none

/-- Arm one slot of a START that is taken (R12). -/
def State.startSlot (s : State) (i : SlotId) : State :=
  let r := s.slots[i]
  let t := (s.writeSlot i { r with
    state := if r.trigger = none then .ready else .waiting
    attempts := 0
    outcome := none
    refusal := none
    response := none
    abortPending := false
    abortTooLate := false }).raiseArmed r.station
  if r.trigger = none then t.joinBack i else t

/-- The slots of a set, in ascending order. -/
def chosenSlots (set : SlotSet) : List SlotId := allSlots.filter (fun i => set.getLsbD i.val)

/-- The first slot of the set that fails a condition of R11, with its status. -/
def State.firstRefusal (s : State) (l : List SlotId) : Option (SlotId × Status) :=
  l.findSome? (fun i => (s.startRefusal i).map (fun st => (i, st)))

/-- START (R11, R12). The reply of a refusal names a slot (R178), save for an empty set, which holds
none (log 19). -/
def serveStart (set : SlotSet) (s : State) : Served :=
  match chosenSlots set with
  | [] => refused s .badValue
  | lowest :: rest =>
    if s.mode = .run ∨ s.mode = .hold ∨ s.mode = .loopback then
      match s.firstRefusal (lowest :: rest) with
      | some (i, st) => (s, st, [byte i.val])
      | none => accepted ((lowest :: rest).foldl State.startSlot s)
    else (s, .mode, [byte lowest.val])

/-! ## Abort (R21, R22) -/

/-- The effect of an abort on one slot (R21). -/
def State.abortOne (s : State) (i : SlotId) : State :=
  let r := s.slots[i]
  match r.state with
  | .waiting | .ready =>
    (s.leaveQueue i).disarmTo i ({ r with state := .aborted }.withOutcome .aborted none none)
  | .active => s.writeSlot i { r with abortPending := true }
  | .empty | .loaded | .done | .failed | .aborted => s

/-- The status an abort answers for a slot's state (R21). -/
def SlotState.abortStatus : SlotState → Status
  | .waiting | .ready => .aborted
  | .active => .inFlight
  | .empty | .loaded | .done | .failed | .aborted => .notArmed

/-- ABORT SLOT (R21). -/
def serveAbortSlot (n : Byte) (s : State) : Served :=
  match slotOf n with
  | some i => (s.abortOne i, s.slots[i].state.abortStatus, [])
  | none => refused s .badValue

/-- ABORT ALL (R22): the reply carries the slots aborted at once and the slot left with abort pending. -/
def serveAbortAll (s : State) : Served :=
  (allSlots.foldl State.abortOne s, .ok,
    bytes24 (slotsToSet (allSlots.filter (fun i => s.slots[i].state.waits))) ++
      [optByte ((allSlots.find? (fun i => decide (s.slots[i].state = .active))).map
        (fun i => byte i.val))])

/-! ## Release by a timer (R13) -/

/-- An underflow of timer n taken by one slot (R13). -/
def State.releaseSlot (s : State) (n : TimerId) (i : SlotId) : State :=
  let r := s.slots[i]
  if r.trigger = some n then
    match r.state with
    | .waiting => (s.writeSlot i { r with state := .ready, attempts := 0 }).joinBack i
    | .ready | .active =>
      if r.repeating then s.writeSlot i { r with late := min 255 (r.late + 1) } else s
    | .empty | .loaded | .done | .failed | .aborted => s
  else s

/-- An underflow of timer n taken by the slot table; in DORMANT it releases none (R13). -/
def State.releaseSlots (s : State) (n : TimerId) : State :=
  if s.mode = .dormant then s else allSlots.foldl (fun t i => t.releaseSlot n i) s

/-! ## Dispatch and the end of an exchange (R15 to R20) -/

/-- A slot taken whose check code agrees: ACTIVE, attempts up by 1 (R15). -/
def State.activateSlot (s : State) (i : SlotId) : State :=
  (s.leaveQueue i).writeSlot i
    { s.slots[i] with state := .active, attempts := s.slots[i].attempts + 1 }

/-- A slot taken whose check code does not agree: FAILED with outcome INTERNAL and its COMPLETION report
under either policy (R15). -/
def State.failSlotCode (s : State) (i : SlotId) : State :=
  ((s.leaveQueue i).disarmTo i
    ({ s.slots[i] with state := .failed }.withOutcome .internal none none)).reportCompletion i

/-- The ACTIVE slot of an ended exchange takes a final state: abort pending cleared, outcome written,
armed count lowered, and its report queued where one is due (R16). -/
def State.finishSlot (s : State) (i : SlotId) (state : SlotState) (o : SlotOutcome)
    (refusal : Option Byte) (response : Option (List Byte)) (tooLate report : Bool) : State :=
  let r := s.slots[i]
  let t := s.disarmTo i ({ r with
    state := state
    abortPending := false
    abortTooLate := r.abortTooLate || tooLate }.withOutcome o refusal response)
  if report then t.reportCompletion i else t

/-- The ACTIVE slot returns to READY at the front of its band for a further attempt (R19, R20). -/
def State.retrySlot (s : State) (i : SlotId) (attempts : Nat) : State :=
  (s.writeSlot i { s.slots[i] with
    state := .ready, abortPending := false, attempts := attempts }).joinFront i

/-- ACK, or BROADCAST_DONE with an empty response (R17). -/
def State.slotAck (s : State) (i : SlotId) (payload : List Byte) : State :=
  let r := s.slots[i]
  if r.repeating && !r.abortPending then
    let t := s.writeSlot i ({ r with state := .waiting }.withOutcome .ok none (some payload))
    if r.failuresOnly then t else t.reportCompletion i
  else s.finishSlot i .done .ok none (some payload) r.abortPending (!r.failuresOnly)

/-- BLOCKED or ABANDONED: the attempt is not counted (R20). -/
def State.slotUncounted (s : State) (i : SlotId) : State :=
  let r := s.slots[i]
  let t := s.writeSlot i { r with attempts := r.attempts - 1 }
  if r.abortPending then t.finishSlot i .aborted .aborted none none false true
  else t.retrySlot i (r.attempts - 1)

/-- The scoring of the outcome has made the slot's station LOST (R19, first case). -/
def State.stationLostOf (s : State) (i : SlotId) : Bool :=
  match Address.station? s.slots[i].station with
  | none => false
  | some st => decide (s.stations[st].state = .lost)

/-- A failed attempt: BUSY, or a link failure (SILENT, GARBLED, ECHO_MISMATCH), by the four cases of R19
in order. `exhausted` is the outcome the last attempt gives. -/
def State.slotFailed (s : State) (i : SlotId) (linkFailure : Bool) (exhausted : SlotOutcome) :
    State :=
  let r := s.slots[i]
  if linkFailure && s.stationLostOf i then
    s.finishSlot i .failed .stationLost none none false false
  else if r.abortPending then s.finishSlot i .aborted .aborted none none false true
  else if r.attempts ≤ r.retryLimit.val then s.retrySlot i r.attempts
  else s.finishSlot i .failed exhausted none none false true

/-- The slot table takes the outcome of a slot's exchange (R16 to R20, TABLE 1-4). ROLL_RESULT does not
end a slot's exchange (TABLE 2-6). -/
def State.slotEnd (s : State) (i : SlotId) : Outcome → State
  | .ack payload => s.slotAck i payload
  | .broadcastDone => s.slotAck i []
  | .nak reason => s.finishSlot i .failed .refused (some reason) none false true
  | .busy => s.slotFailed i false .busy
  | .silent => s.slotFailed i true .noReply
  | .garbled => s.slotFailed i true .badReply
  | .echoMismatch => s.slotFailed i true .badReply
  | .blocked => s.slotUncounted i
  | .abandoned => s.slotUncounted i
  | .rollResult _ _ _ => s

end Sys2Proof.Machine
end

