-- ==== Sys2Proof/Machine/Stations.lean ====
section
/-! DEFINITION. The station table (chapter 4): scoring, probes, loss of a station, and the five station
requests. -/

namespace Sys2Proof.Machine

/-! ## Loss of a station (R90) -/

/-- A station whose entry has been written LOST takes the consequences of R90: its slots fail, its
STATION report lists them with the slot of the exchange, and it leaves the service lists. -/
def State.loseStation (s : State) (st : StationId) (reason : StationReason)
    (old : Option StationState) (own : Option SlotId) : State :=
  let failed := allSlots.filter (fun i => s.waitsFor st i || decide (own = some i))
  let t := s.failSlotsOf st
  (t.queueReserved (.station st reason old .lost t.stations[st].score none failed)).dropLost st

/-- An entry whose check code does not agree is rewritten whole, LOST, and the loss follows (R76). -/
def State.loseByCheck (s : State) (st : StationId) : State :=
  (s.writeStation st { Station.reset with state := .lost }).loseStation st .check none none

/-! ## The end of an exchange (R65, R85 to R89) -/

/-- The outcome flips the next toggle after a SLOT or CAUSE exchange (TABLE 3-4). -/
def Outcome.flipsToggle : Outcome → Bool
  | .ack _ | .nak _ => true
  | .busy | .silent | .garbled | .echoMismatch | .broadcastDone | .rollResult _ _ _ | .blocked
  | .abandoned => false

/-- The fault score after an outcome (TABLE 4-5). -/
def Outcome.score (o : Outcome) (score : Nat) : Nat :=
  match o with
  | .ack _ | .nak _ => score - 1
  | .silent | .garbled | .echoMismatch => score + 8
  | .busy | .broadcastDone | .rollResult _ _ _ | .blocked | .abandoned => score

/-- The states in which the score changes (R88). -/
def StationState.scored : StationState → Bool
  | .probing | .good | .suspect | .silenced => true
  | .vacant | .lost => false

/-- The state that the first matching row of TABLE 4-6 gives. -/
def StationState.onScore (state : StationState) (score : Nat) : StationState :=
  if state.scored && decide (240 ≤ score) then .lost
  else match state with
    | .good => if 64 ≤ score then .suspect else .good
    | .suspect => if 128 ≤ score then .silenced else if score < 32 then .good else .suspect
    | .silenced => if score < 96 then .suspect else .silenced
    | .vacant => .vacant
    | .probing => .probing
    | .lost => .lost

/-- A station entry after a SLOT or CAUSE exchange: toggle, score, state (R87 steps 1 to 3). -/
def Station.afterExchange (e : Station) (o : Outcome) : Station :=
  let score := if e.state.scored then o.score e.score else e.score
  { e with
    toggle := if o.flipsToggle then !e.toggle else e.toggle
    score := score
    state := e.state.onScore score }

/-- The station table takes the outcome of a SLOT or CAUSE exchange (R87). `own` is the slot of the
exchange. -/
def State.scoreEnd (s : State) (st : StationId) (own : Option SlotId) (o : Outcome) : State :=
  let old := s.stations[st].state
  let e := s.stations[st].afterExchange o
  let t := s.writeStation st e
  if e.state = old then t
  else if e.state = .lost then t.loseStation st .score (some old) own
  else t.queueReserved (.station st .score (some old) e.state e.score none [])

/-- A probe failure (R86): the first is counted, the second loses the station. -/
def State.probeFails (s : State) (st : StationId) : State :=
  let e := s.stations[st]
  if e.probeFailures = 0 then s.writeStation st { e with probeFailures := 1 }
  else (s.writeStation st { e with state := .lost }).loseStation st .probe (some e.state) none

/-- The station table takes the outcome of a PROBE (R85, R86). An ACK's payload is the type code and the
revision (R42). -/
def State.probeEnd (s : State) (st : StationId) (o : Outcome) : State :=
  match o with
  | .ack payload =>
    let e := s.stations[st]
    let identity := some (payload.getD 0 0, payload.getD 1 0)
    (s.writeStation st { e with
      state := .good
      identity := identity
      score := 0
      toggle := true
      probeFailures := 0 }).queueReserved
        (.station st .probe (some e.state) .good 0 identity [])
  | .nak _ | .silent | .garbled | .echoMismatch => s.probeFails st
  | .busy | .blocked | .abandoned | .broadcastDone | .rollResult _ _ _ => s

/-- Step 1 of R47: an exchange addressed to a station 0..30, outside LOOPBACK (R87, R92). An exchange begun in
RUN may run on into HOLD (R138) and its outcome is taken there too: R93 says that no outcome is taken in
HOLD, and the model follows R87 and R47 (log 35). -/
def State.stationTakes (s : State) (x : Exchange) (o : Outcome) : State :=
  if s.mode = .loopback then s
  else match Address.station? x.station with
    | none => s
    | some st =>
      match x.kind with
      | .slot | .cause => s.scoreEnd st x.slot o
      | .probe => s.probeEnd st o
      | .roll => s

/-! ## Requests (R79 to R83) -/

/-- ENROLL (R79). -/
def serveEnroll (a : Byte) (mask : Half) (s : State) : Served :=
  match stationOf a with
  | none => refused s .badValue
  | some st =>
    if s.mode ≠ .configuration ∧ s.mode ≠ .hold then refused s .mode
    else if s.stations[st].state ≠ .vacant then refused s .enrolled
    else accepted (s.writeStation st { Station.reset with state := .probing, causeMask := mask })

/-- WITHDRAW (R80, R108). -/
def serveWithdraw (a : Byte) (s : State) : Served :=
  match stationOf a with
  | none => refused s .badValue
  | some st =>
    if s.stations[st].state = .vacant then refused s .stationVacant
    else if s.inFlightTo st then refused s .stationBusy
    else if 0 < s.stations[st].armed then refused s .stationBusy
    else accepted ((s.writeStation st Station.reset).dropFromLists st)

/-- RESTORE (R81). -/
def serveRestore (a : Byte) (s : State) : Served :=
  match stationOf a with
  | none => refused s .badValue
  | some st =>
    if s.stations[st].state ≠ .lost then refused s .notLost
    else accepted (s.writeStation st { s.stations[st] with
      state := .probing, score := 0, probeFailures := 0, toggle := false })

/-- SET CAUSE MASK (R82). -/
def serveSetCauseMask (a : Byte) (mask : Half) (s : State) : Served :=
  match stationOf a with
  | none => refused s .badValue
  | some st =>
    if s.stations[st].state = .vacant then refused s .stationVacant
    else accepted (s.writeStation st { s.stations[st] with causeMask := mask })

/-- READ STATION (R83). -/
def serveReadStation (a : Byte) (s : State) : Served :=
  match stationOf a with
  | none => refused s .badValue
  | some st => (s, .ok, stationBody s.stations[st])

end Sys2Proof.Machine
end

