-- ==== Sys2Proof/Machine/Attention.lean ====
section
/-! DEFINITION. The attention unit (chapter 5): ends of roll calls and cause reads, the five attention
requests, and the events of the lines. -/

namespace Sys2Proof.Machine

/-! ## Roll calls (R102 to R104) -/

/-- The stations of an identified set that are served: neither VACANT nor LOST, in ascending order (R102). A
PROBING station is served too (TABLE 4-4), so a CAUSE may reach it before its probe: R67 says that the first
exchange after enrollment is always the probe, and the model follows R77 and R102 (log 38). -/
def State.servable (s : State) (set : StationSet) : List StationId :=
  (StationSet.members set).filter (fun st =>
    decide (s.stations[st].state ≠ .vacant) && decide (s.stations[st].state ≠ .lost))

/-- A level's record at the end of a roll sequence, with its identified set and service list (R102). -/
def Line.afterRoll (r : Line) (set : StationSet) (union : Bool) (list : List StationId) : Line :=
  { r with
    lastPresence := set
    unionUsed := union
    rollAttempt := false
    readFailures := false
    serviceList := list
    state := if list = [] then (if r.filtered then .stuck else .quiet) else .serving }

/-- A roll sequence ends with its identified set (R102, R103): a level left STUCK is reported. -/
def State.endRoll (s : State) (l : LineId) (set : StationSet) (union : Bool) : State :=
  let r := s.lines[l].afterRoll set union (s.servable set)
  let t := s.writeLine l r
  if r.state = .stuck then t.queueReserved (.attnStuck l set union) else t

/-- A failed roll (R103): the first is to be repeated, the second is resolved by the union rule. -/
def State.rollFails (s : State) (l : LineId) (presence mirror : StationSet) : State :=
  if s.lines[l].rollAttempt then s.endRoll l (presence ||| mirrored mirror) true
  else s.writeLine l { s.lines[l] with rollAttempt := true }

/-- The attention unit takes the outcome of a ROLL (R102 to R104). -/
def State.rollEnd (s : State) (l : LineId) (o : Outcome) : State :=
  match o with
  | .rollResult .consistent presence _ => s.endRoll l presence false
  | .rollResult .mismatch presence mirror => s.rollFails l presence mirror
  | .rollResult .garbled presence mirror => s.rollFails l presence mirror
  | .blocked | .abandoned | .ack _ | .nak _ | .busy | .silent | .garbled | .echoMismatch
  | .broadcastDone => s

/-! ## Cause reads (R105 to R107) -/

/-- The station at the head of a service list is removed; a list left empty is taken by R109. -/
def Line.dropHead (r : Line) : Line :=
  if r.serviceList.tail = [] then r.empties
  else { r with serviceList := r.serviceList.tail, readFailures := false }

/-- The cause in the first byte of a CAUSE ACK, which is 0..15 (R42). -/
def causeOf (payload : List Byte) : Fin 16 := Fin.ofNat 16 (payload.headD 0).toNat

/-- A CAUSE that ends ACK (R105): last cause written outside LOOPBACK, station removed, cause reported
if it is in the mask. -/
def State.causeAck (s : State) (l : LineId) (st : StationId) (payload : List Byte) : State :=
  let c := causeOf payload
  let t := if s.mode = .loopback then s
    else s.writeStation st { s.stations[st] with lastCause := some c }
  let u := t.writeLine l s.lines[l].dropHead
  if s.stations[st].causeMask.getLsbD c.val then
    u.queueReserved (.attnCause l st c (payload.drop 1))
  else u

/-- A failed cause read (R106). -/
def State.readFails (s : State) (l : LineId) (st : StationId) (o : Outcome) : State :=
  if s.lines[l].readFailures then
    (s.writeLine l s.lines[l].dropHead).queueReserved (.attnUnread st [l] (some o))
  else s.writeLine l { s.lines[l] with readFailures := true }

/-- The attention unit takes the outcome of a CAUSE to a station still at the head of the level's list;
one that a loss has removed is taken no further (R105 to R108). -/
def State.causeEnd (s : State) (l : LineId) (st : StationId) (o : Outcome) : State :=
  if s.lines[l].serviceList.head? = some st then
    match o with
    | .ack payload => s.causeAck l st payload
    | .nak _ => s.writeLine l s.lines[l].dropHead
    | .busy | .silent | .garbled | .echoMismatch => s.readFails l st o
    | .blocked | .abandoned | .broadcastDone | .rollResult _ _ _ => s
  else s

/-! ## Requests (R98, R110, R111, R113, R116) -/

/-- SET THRESHOLD (R98): a lowered threshold opens the soft levels to the test of R112. -/
def serveSetThreshold (t : Byte) (s : State) : Served :=
  if h : t.toNat < 8 then
    let u := { s with threshold := ⟨t.toNat, h⟩ }
    accepted (if t.toNat < s.threshold.val then u.softTests else u)
  else refused s .badValue

/-- UNMASK (R110). -/
def serveUnmask (level : Byte) (s : State) : Served :=
  match lineOf level with
  | none => refused s .badValue
  | some l =>
    if s.lines[l].state = .stuck then
      accepted (s.writeLine l { s.lines[l] with
        rollAttempt := false
        state := if s.lines[l].filtered then .pending else .quiet })
    else refused s .notStuck

/-- RAISE (R111): HOST is origin 0 (R178). -/
def serveRaise (level : Byte) (s : State) : Served :=
  match softOf level with
  | none => refused s .badValue
  | some l => accepted (s.addOrigin l 1)

/-- SET LOOP ATTENTION (R113, R96): values, then mode (log 20). -/
def serveSetLoopAttention (level : Byte) (set : BitVec 32) (cause : Byte) (s : State) : Served :=
  match lineOf level, stationSetOf set with
  | some l, some stations =>
    if h : cause.toNat < 16 then
      if s.mode = .loopback then
        accepted ((s.writeLine l { s.lines[l] with
          loopSet := stations, loopCause := ⟨cause.toNat, h⟩ }).changeLine l (stations != 0))
      else refused s .mode
    else refused s .badValue
  | _, _ => refused s .badValue

/-- READ ATTENTION (R116). -/
def serveReadAttention (s : State) : Served := (s, .ok, s.attentionBody)

/-! ## Events -/

/-- ATTENTION_LINE_CHANGE (R95): the pin passes to a level. With a filter time of 0 the filter takes it
at once; otherwise the difference is timed, and its expiry is a command of its own. -/
def execAttentionLineChange (l : LineId) (asserted : Bool) (s : State) : Result :=
  let t := s.writeLine l { s.lines[l] with pin := asserted }
  .next (if t.filtersRun && t.filterTimeZero then t.filterTakes l else t)

/-- ATTENTION_FILTER_EXPIRY (R95): the pin has stood at its new level for the filter time. -/
def execAttentionFilterExpiry (l : LineId) (s : State) : Result :=
  .next (if s.filtersRun then s.filterTakes l else s)

/-- SOFT_ATTENTION_REPORT (R112): the test of the level. -/
def execSoftAttentionReport (l : SoftId) (s : State) : Result := .next (s.softTest l)

end Sys2Proof.Machine
end

