-- ==== Sys2Proof/Machine/Timers.lean ====
section
/-! DEFINITION. The cadence timers (chapter 6): underflow and cascade, the ticks of the time bases, the
host-silence timer that counts on them, and the two timer requests. -/

namespace Sys2Proof.Machine

/-! ## Underflow (R123 to R125) -/

/-- A timer's own record at its underflow (R123). -/
def Timer.atUnderflow (r : Timer) : Timer :=
  { r with
    enabled := !r.oneShot
    count := if r.oneShot then 0 else r.reload
    tally := min 15 (r.tally + 1)
    due := false }

/-- The soft level a timer names, if any: field 0 is none, field L is soft level L (R119). -/
def Timer.soft? (r : Timer) : Option SoftId :=
  if h : 1 ≤ r.softLevel.val then some ⟨r.softLevel.val - 1, by omega⟩ else none

/-- The attention unit takes an underflow of timer n (R111): origin bit n + 1 (R178). -/
def State.addTimerOrigin (s : State) (n : TimerId) : State :=
  match s.timers[n].soft? with
  | none => s
  | some l => s.addOrigin l ((1 : Origins) <<< (n.val + 1))

/-- The mode controller takes an underflow of timer n (R124): a wake source in DORMANT with wake enable
set. -/
def State.timerWakes (s : State) (n : TimerId) : State :=
  if s.timers[n].wakeEnable then s.tellWake (.timer n) else s

/-- One timer underflows: its record, then the three blocks (R123, R124). -/
def State.handOut (s : State) (n : TimerId) : State :=
  (((s.writeTimer n s.timers[n].atUnderflow).releaseSlots n).addTimerOrigin n).timerWakes n

/-- Timer n underflows, and the chain of CASCADE timers above it takes its tick (R125). The first
argument bounds the length of the chain; 8 is enough for every timer. -/
def State.underflow : Nat → State → TimerId → State
  | 0, s, _ => s
  | fuel + 1, s, n =>
    let t := s.handOut n
    if h : n.val + 1 < 8 then
      let m : TimerId := ⟨n.val + 1, h⟩
      if t.timers[m].source = .cascade ∧ t.timers[m].enabled then
        if 1 < t.timers[m].count then
          t.writeTimer m { t.timers[m] with count := t.timers[m].count - 1 }
        else t.underflow fuel m
      else t
    else t

/-- An underflow of timer n with its whole chain. -/
def State.takeUnderflow (s : State) (n : TimerId) : State := State.underflow 8 s n

/-! ## Ticks (R120, R122) -/

/-- A timer takes a tick of a base (R122): at count 1 the underflow falls due (log 8). -/
def Timer.tick (src : TimerSource) (r : Timer) : Timer :=
  if r.enabled && decide (r.source = src) then
    if 1 < r.count then { r with count := r.count - 1 } else { r with due := true }
  else r

/-- A tick of a base reaches every timer. -/
def State.tickBase (s : State) (src : TimerSource) : State :=
  { s with timers := mapAll (Timer.tick src) s.timers }

/-- Take every underflow that is due, in ascending order (log 8). -/
def State.takeDue (s : State) : State :=
  allTimers.foldl (fun t n => if t.timers[n].due then t.takeUnderflow n else t) s

/-- The host-silence timer expires: RUN becomes HOLD (R143). -/
def State.silenceExpires (s : State) : State :=
  if s.mode = .run ∧ s.silence = some 0 then s.changeMode .hold .hostSilent else s

/-- What earlier ticks have made due comes before the next tick (logs 8 and 10). -/
def State.catchUp (s : State) : State := s.takeDue.silenceExpires

/-- A tick of the fine divider: BASE_10US, and BASE_100US at every tenth (R120). -/
def State.fineTick (s : State) : State :=
  let t := { s with fineDivider := s.fineDivider + 1 }.tickBase .base10us
  if t.fineDivider = 0 then t.tickBase .base100us else t

/-- The host-silence timer falls by one millisecond (R142). -/
def State.silenceTick (s : State) : State := { s with silence := s.silence.map (fun k => k - 1) }

/-- A tick of the millisecond divider outside HALTED: the uptime advances, BASE_1MS ticks, BASE_10MS
ticks where the uptime has become a multiple of 10, and the host-silence timer counts (R120, R142,
R159). -/
def State.milliTick (s : State) : State :=
  let t := { s with uptime := s.uptime + 1 }.tickBase .base1ms
  (if t.uptime.toNat % 10 = 0 then t.tickBase .base10ms else t).silenceTick

/-! ## Requests (R127 to R131) -/

/-- The record SET TIMER writes, where its values pass the checks of R127 and the flags those of R178. -/
def timerProgrammed (n : TimerId) (src : Byte) (reload : Half) (soft flags : Byte) : Option Timer :=
  match TimerSource.ofCode src with
  | none => none
  | some source =>
    if h : soft.toNat < 4 then
      if source = .cascade ∧ n = 0 then none
      else if reload.toNat = 0 ∨ 4095 < reload.toNat ∨ 8 ≤ flags.toNat then none
      else some
        { enabled := flags.getLsbD 0
          source := source
          reload := reload.toNat
          count := reload.toNat
          oneShot := flags.getLsbD 1
          tally := 0
          softLevel := ⟨soft.toNat, h⟩
          wakeEnable := flags.getLsbD 2
          due := false }
    else none

/-- The divider tick that gave a timer of source `old` its due tick gave a tick of `src` as well (R120):
BASE_100US ticks with every tenth BASE_10US tick, BASE_10MS with every tenth BASE_1MS tick. -/
def State.tickGave (s : State) (old src : TimerSource) : Bool :=
  let fine := decide (old = .base10us ∨ old = .base100us)
  let milli := decide (old = .base1ms ∨ old = .base10ms)
  match src with
  | .base10us => fine
  | .base100us => fine && decide (s.fineDivider = 0)
  | .base1ms => milli
  | .base10ms => milli && decide (s.uptime.toNat % 10 = 0)
  | .cascade => false

/-- The record left by a SET TIMER. Where the tick that the old record had met is not yet taken as an
underflow, SET TIMER comes first and the tick finds the new record: the first order of R129 (log 11). -/
def State.recordAfterSet (s : State) (old new : Timer) : Timer :=
  if old.due && s.tickGave old.source new.source then new.tick new.source else new

/-- SET TIMER (R127, R128). -/
def serveSetTimer (timer src : Byte) (reload : Half) (soft flags : Byte) (s : State) : Served :=
  match timerOf timer with
  | none => refused s .badValue
  | some n =>
    match timerProgrammed n src reload soft flags with
    | none => refused s .badValue
    | some rec => accepted (s.writeTimer n (s.recordAfterSet s.timers[n] rec))

/-- READ TIMERS (R130, R131): the tallies are cleared after the snapshot. -/
def serveReadTimers (clear : Byte) (s : State) : Served :=
  if clear = 0 then (s, .ok, s.timersBody)
  else if clear = 1 then
    ({ s with timers := mapAll (fun r : Timer => { r with tally := 0 }) s.timers }, .ok, s.timersBody)
  else refused s .badValue

/-! ## Events -/

/-- TIME_BASE_TICK (R120 to R122, R159). The fine divider ticks while its bases run; the millisecond
divider advances the uptime from the end of the reset, in HALTED with no base tick taken. -/
def execTimeBaseTick (d : Divider) (s : State) : Result :=
  .next (match d with
    | .fine => if s.baseRuns .base10us then s.catchUp.fineTick else s
    | .millisecond =>
      if s.startUp = .inReset then s
      else if s.mode = .halted then { s with uptime := s.uptime + 1 }
      else s.catchUp.milliTick)

/-- TIMER_UNDERFLOW (R123): the underflow that is due is taken whole. -/
def execTimerUnderflow (n : TimerId) (s : State) : Result :=
  .next (if s.timers[n].due then s.takeUnderflow n else s)

/-- HOST_SILENCE_EXPIRY (R143). -/
def execHostSilenceExpiry (s : State) : Result := .next s.silenceExpires

end Sys2Proof.Machine
end

