-- ==== Sys2Proof/Machine/Reports.lean ====
section
/-! DEFINITION. The report unit's requests (chapter 9): FETCH, READ FAULT, CLEAR FAULT. -/

namespace Sys2Proof.Machine

/-- FETCH (R162): the oldest reports are returned and removed; a FETCH that removes reports opens the
soft levels to the test of R112. The records take free values from `freeCount` on (log 18). -/
def serveFetch (count : Byte) (s : State) : Served :=
  if 1 ≤ count.toNat ∧ count.toNat ≤ 4 then
    let out := s.reports.take count.toNat
    let t := { s with
      reports := s.reports.drop count.toNat
      freeCount := s.freeCount + out.length }
    (if out = [] then t else t.softTests, .ok, byte out.length :: recordsFrom s.freeCount out)
  else refused s .badValue

/-- READ FAULT (R167). -/
def serveReadFault (s : State) : Served := (s, .ok, faultBody s.fault)

/-- CLEAR FAULT (R167). -/
def serveClearFault (s : State) : Served := accepted { s with fault := none }

end Sys2Proof.Machine
end

