-- ==== Sys2Proof/Machine/Settings.lean ====
section
/-! DEFINITION. The control port's own requests: the settings record, IDENTIFY and STATUS (R175 to
R177). -/

namespace Sys2Proof.Machine

/-- A value written into the field of one mask bit, in the units of R179; `none` where it does not lie
in the field's range (R175 check 2, R178). -/
def Settings.writeField (t : Settings) (bit : Nat) (v : Byte) : Option Settings :=
  match bit with
  | 0 => (LinkRate.ofCode v).map (fun r => { t with linkRate := r })
  | 1 => if 2 ≤ v.toNat ∧ v.toNat ≤ 200 then some { t with replyWindow := v.toNat } else none
  | 2 => if 1 ≤ v.toNat ∧ v.toNat ≤ 50 then some { t with broadcastGap := v.toNat } else none
  | 3 => (FilterTime.ofCode v).map (fun f => { t with filter := f })
  | 4 => some { t with hostTimeout := v.toNat }
  | 5 => if v &&& 0x0F = 0 then some { t with wakeLevels := v.extractLsb' 4 4 } else none
  | _ => none

/-- The mask bits that name a field, in bit order (R179). -/
def namedFields (mask : Byte) : List Nat := (List.range 6).filter (fun k => mask.getLsbD k)

/-- The values written into the named fields, one after the other; `none` where one is out of range or
one is missing. -/
def Settings.writeFields (t : Settings) : List Nat → List Byte → Option Settings
  | [], _ => some t
  | _ :: _, [] => none
  | k :: ks, v :: vs => (t.writeField k v).bind (fun u => u.writeFields ks vs)

/-- The mask names one of the restricted fields, bits 0 to 2 (R175 check 3). -/
def restrictedMask (mask : Byte) : Bool := mask &&& 0x07 != 0

/-- The effects of the new values (R175): a host timeout written in RUN restarts the host-silence timer,
and a filter time written reaches the differences being timed. -/
def State.settingsWritten (s : State) (mask : Byte) (t : Settings) : State :=
  let u := { s with
    settings := t
    silence := if mask.getLsbD 4 ∧ s.mode = Mode.run then t.silenceStart else s.silence }
  if mask.getLsbD 3 then u.retimeFilters else u

/-- WRITE SETTINGS (R175). -/
def serveWriteSettings (mask : Byte) (values : List Byte) (s : State) : Served :=
  if mask = 0 ∨ 64 ≤ mask.toNat then refused s .badValue
  else match s.settings.writeFields (namedFields mask) values with
    | none => refused s .badValue
    | some t =>
      if restrictedMask mask ∧ s.mode ≠ .configuration then refused s .mode
      else accepted (s.settingsWritten mask t)

/-- READ SETTINGS (R175). -/
def serveReadSettings (s : State) : Served := (s, .ok, settingsBody s.settings)

/-- IDENTIFY (R176). -/
def serveIdentify (s : State) : Served := (s, .ok, s.identifyBody)

/-- STATUS (R177). -/
def serveStatus (s : State) : Served := (s, .ok, s.statusBody)

end Sys2Proof.Machine
end

