-- ==== Sys2Proof/Machine/Dispatcher.lean ====
section
/-! DEFINITION. The link dispatcher (chapter 2): the candidates and their taking, the handing out of an
exchange's end, and the three step requests. -/

namespace Sys2Proof.Machine

/-! ## Candidates (R6, R32, R35, R84, R100)

A candidate is the exchange record that its start would write. -/

/-- The toggle of a command to an address: the station entry's next toggle, 0 for broadcast (R35). -/
def State.nextToggle (s : State) (a : Address) : Bool :=
  match Address.station? a with
  | none => false
  | some st => s.stations[st].toggle

/-- The exchange of a slot (R35). -/
def State.slotExchange (s : State) (i : SlotId) : Exchange where
  kind := .slot
  slot := some i
  station := s.slots[i].station
  level := none
  command := s.slots[i].command.link
  toggle := s.nextToggle s.slots[i].station
  phase := .sending
  stepPending := s.stepEnable
  payload := s.slots[i].payload

/-- The ROLL of a level (R35, TABLE 3-2). -/
def State.rollExchange (s : State) (l : LineId) : Exchange where
  kind := .roll
  slot := none
  station := 31
  level := some l
  command := .roll
  toggle := false
  phase := .sending
  stepPending := s.stepEnable
  payload := [byte (4 + l.val)]

/-- The CAUSE of a level to a station (R35, TABLE 3-2). -/
def State.causeExchange (s : State) (l : LineId) (st : StationId) : Exchange where
  kind := .cause
  slot := none
  station := stationAddress st
  level := some l
  command := .cause
  toggle := s.stations[st].toggle
  phase := .sending
  stepPending := s.stepEnable
  payload := [byte (4 + l.val)]

/-- The PROBE of a station (R35, R67). -/
def State.probeExchange (s : State) (st : StationId) : Exchange where
  kind := .probe
  slot := none
  station := stationAddress st
  level := none
  command := .probe
  toggle := false
  phase := .sending
  stepPending := s.stepEnable
  payload := []

/-- Rank A: the first slot of priority 3 in the ready queue that is not held (R6). -/
def State.rankA (s : State) : Option Exchange :=
  (s.ready.find? (fun i => decide (s.slots[i].priority = 3) && !s.held i)).map s.slotExchange

/-- The candidate of a level that is due one (R100). -/
def State.levelExchange (s : State) (l : LineId) : Option Exchange :=
  if s.lines[l].state = .serving then s.lines[l].serviceList.head?.map (s.causeExchange l)
  else some (s.rollExchange l)

/-- Rank B: the first level from 7 down to 4 that is eligible and PENDING, in ROLL or SERVING (R100). -/
def State.rankB (s : State) : Option Exchange :=
  (allLines.reverse.find? (fun l => s.lineEligible l && s.lines[l].state.calling)).bind s.levelExchange

/-- Rank C: in RUN, the PROBE of the PROBING station of lowest address (R84). -/
def State.rankC (s : State) : Option Exchange :=
  if s.mode = .run then
    (allStations.find? (fun st => decide (s.stations[st].state = .probing))).map s.probeExchange
  else none

/-- Rank D: the first slot of priority 2, 1 or 0 in the ready queue that is not held (R6). -/
def State.rankD (s : State) : Option Exchange :=
  (s.ready.find? (fun i => decide (s.slots[i].priority ≠ 3) && !s.held i)).map s.slotExchange

/-- The candidate of the highest rank that has one (R32). -/
def State.candidate (s : State) : Option Exchange :=
  ((s.rankA.or s.rankB).or s.rankC).or s.rankD

/-! ## Handing out an exchange's end (R47) -/

/-- The link interface stops sending or receiving and negates LDE (R46, R54). -/
def State.stopLink (s : State) : State := { s with lde := false, linkFrame := none }

/-- Step 2: the owner takes the outcome; a PROBE's owner is the station table, which has taken it
(TABLE 2-7). -/
def State.ownerTakes (s : State) (x : Exchange) (o : Outcome) : State :=
  match x.kind, x.slot, x.level, Address.station? x.station with
  | .slot, some i, _, _ => s.slotEnd i o
  | .roll, _, some l, _ => s.rollEnd l o
  | .cause, _, some l, some st => s.causeEnd l st o
  | _, _, _, _ => s

/-- Step 3: a BLOCKED end passes its LINK_STUCK fault and forces HOLD (R45, R144). -/
def State.linkStuck (s : State) (x : Exchange) (o : Outcome) : State :=
  if o = .blocked then
    (s.takeFault (faultOf .linkStuck s.uptime s.mode .busy (some x))).forceHold .link
  else s

/-- An outcome as a STEP report carries it: without an ACK's payload and a roll's words (R52). -/
def Outcome.bare : Outcome → Outcome
  | .ack _ => .ack []
  | .nak reason => .nak reason
  | .busy => .busy
  | .silent => .silent
  | .garbled => .garbled
  | .echoMismatch => .echoMismatch
  | .broadcastDone => .broadcastDone
  | .rollResult v _ _ => .rollResult v 0 0
  | .blocked => .blocked
  | .abandoned => .abandoned

/-- Step 4: the STEP report of an exchange that carries step-pending (R52). -/
def State.stepReport (s : State) (x : Exchange) (o : Outcome) : State :=
  if x.stepPending then s.queueReserved (.step x.kind x.slot x.level x.station o.bare) else s

/-- Step 5: what remains of the reservation is released and the record discarded; the release opens the
soft levels to the test of R112. -/
def State.release (s : State) : State :=
  { s with reserved := 0, exchange := none, loopAnswer := none }.softTests

/-- Step 6: the dispatcher's new state. -/
def State.dispatcherAfter (s : State) (x : Exchange) : State :=
  { s with dispatcher :=
      if s.mode.traffic then (if x.stepPending then .held else .idle) else .stopped }

/-- Step 7: a requested mode is completed (R140). -/
def State.completeRequested (s : State) : State :=
  match s.requested with
  | none => s
  | some m => s.changeMode m .request

/-- The end of an exchange, handed out in the order of R47. The next look (step 8) is a command of its
own (log 6). -/
def State.endExchange (s : State) (x : Exchange) (o : Outcome) : State :=
  ((((((s.stopLink.stationTakes x o).ownerTakes x o).linkStuck x o).stepReport x o).release).dispatcherAfter
    x).completeRequested

/-- An exchange on the link, if there is one, ends ABANDONED (R46). -/
def State.abandonFlight (s : State) : State :=
  match s.exchange with
  | none => s
  | some x => s.endExchange x .abandoned

/-- A fault found elsewhere than at an exchange's end: should it halt the part with an exchange on the
link, that exchange ends ABANDONED (R46, R165). -/
def State.takeFaultElsewhere (s : State) (f : FaultRecord) : State :=
  if (s.takeFault f).mode = .halted then (s.takeFault f).abandonFlight else s.takeFault f

/-! ## Taking a candidate (R33, R34) -/

/-- Storage has upset one of the candidate's records (log 5): its check code no longer agrees. -/
def State.upset (s : State) (x : Exchange) (u : Upset) : State :=
  match u with
  | .none => s
  | .slot =>
    match x.slot with
    | none => s
    | some i => { s with slots := s.slots.set i { s.slots[i] with codeAgrees := false } }
  | .station =>
    match Address.station? x.station with
    | none => s
    | some st => { s with stations := s.stations.set st { s.stations[st] with codeAgrees := false } }

/-- Test 1 of R33: the slot of a slot candidate whose check code does not agree. -/
def State.badSlot (s : State) (x : Exchange) : Option SlotId :=
  match x.slot with
  | none => none
  | some i => if s.slots[i].codeAgrees then none else some i

/-- Test 2 of R33: the station of a candidate whose check code does not agree. -/
def State.badStation (s : State) (x : Exchange) : Option StationId :=
  match Address.station? x.station with
  | none => none
  | some st => if s.stations[st].codeAgrees then none else some st

/-- A taking is cancelled after its reports (R33, R166): the reservation is released and a TABLE_CHECK
fault passed with the candidate's particulars. -/
def State.cancel (s : State) (x : Exchange) : State :=
  { s with reserved := 0 }.takeFaultElsewhere
    (faultOf .tableCheck s.uptime s.mode s.dispatcher (some x))

/-- The block that offered the candidate is told of the start (R34, R15, R101). -/
def State.markStarted (s : State) (x : Exchange) : State :=
  match x.kind, x.slot, x.level with
  | .slot, some i, _ => s.activateSlot i
  | .roll, _, some l =>
    if s.lines[l].state = .pending then
      s.writeLine l { s.lines[l] with state := .roll, rollAttempt := false, unionUsed := false }
    else s
  | _, _, _ => s

/-- The command frame leaves on LTX with LDE asserted, its characters back to back (R37, R54, R56). -/
def State.sendFrame (s : State) (x : Exchange) : State :=
  { s with
    lde := true
    linkFrame := some (lineLevels (commandFrame x.station x.command x.toggle x.payload)) }

/-- The line test at the start of an exchange (R37); in LOOPBACK the line is not examined and the pair
not driven. -/
def State.beginSending (s : State) (x : Exchange) (active : Bool) : State :=
  if s.mode = .loopback then s
  else
    let t := { s with lineActive := active }
    if active then t else t.sendFrame x

/-- An exchange starts (R34). -/
def State.startExchange (s : State) (x : Exchange) (active : Bool) : State :=
  ({ s.markStarted x with exchange := some x, dispatcher := .busy }).beginSending x active

/-- A candidate is taken: 3 entries reserved and the check codes tested (R33). The taking goes on with
`passed` where every code agrees, and is cancelled where one does not. -/
def State.tested (s : State) (x : Exchange) (u : Upset) (passed : State → State) : State :=
  let t := { s with reserved := 3 }.upset x u
  match t.badSlot x with
  | some i => (t.failSlotCode i).cancel x
  | none =>
    match t.badStation x with
    | some st => (t.loseByCheck st).cancel x
    | none => passed t

/-- A candidate is taken, and its exchange starts where every test passes (R33, R34). -/
def State.take (s : State) (x : Exchange) (active : Bool) (u : Upset) : State :=
  s.tested x u (fun t => t.startExchange x active)

/-- The dispatcher looks, and takes the candidate offered while the conditions of R30 hold. -/
def State.look (s : State) (active : Bool) (u : Upset) : State :=
  if s.canStart then
    match s.candidate with
    | none => s
    | some x => s.take x active u
  else s

/-! ## Step requests (R50, R53) -/

/-- STEP ENABLE (R50). -/
def serveStepEnable (s : State) : Served := accepted { s with stepEnable := true }

/-- STEP DISABLE (R50): a HELD dispatcher becomes IDLE. -/
def serveStepDisable (s : State) : Served :=
  accepted { s with
    stepEnable := false
    dispatcher := if s.dispatcher = .held then .idle else s.dispatcher }

/-- STEP ADVANCE (R53). -/
def serveStepAdvance (s : State) : Served :=
  if s.dispatcher = .held then accepted { s with dispatcher := .idle } else refused s .notHeld

end Sys2Proof.Machine
end

