-- ==== Sys2Proof/Machine/Link.lean ====
section
/-! DEFINITION. The link interface (chapter 3, section 2.5): the phases of an exchange, the answers of
the stations, and the loop responder. -/

namespace Sys2Proof.Machine

/-- The exchange on the link, where it stands in a phase. -/
def State.inPhase (s : State) (p : Phase) : Option Exchange :=
  match s.exchange with
  | some x => if x.phase = p then some x else none
  | none => none

/-- The exchange passes to another phase. -/
def State.toPhase (s : State) (x : Exchange) (p : Phase) : State :=
  { s with exchange := some { x with phase := p } }

/-- An answer of the loop responder that is a reply frame. -/
def LoopAnswer.outcome? : LoopAnswer → Option Outcome
  | .ack payload => some (.ack payload)
  | .nak reason => some (.nak reason)
  | .roll _ _ => none

/-- The loop responder has a reply frame to begin (R72). -/
def State.loopReplies (s : State) : Bool := (s.loopAnswer.bind LoopAnswer.outcome?).isSome

/-- The loop responder has a roll-call response to open (R72). -/
def State.loopOpens (s : State) : Bool :=
  match s.loopAnswer with
  | some (.roll _ _) => true
  | _ => false

/-! ## The loop responder (R72 to R74) -/

/-- The answer to a CAUSE (R74): a station in the level's loop set gives the loop cause and leaves the
set; any other gives NAK reason 1. -/
def State.loopCause (s : State) (l : LineId) (st : StationId) : State :=
  if s.lines[l].loopSet.getLsbD st.val then
    let set := s.lines[l].loopSet &&& ~~~((1 : StationSet) <<< st.val)
    { (s.writeLine l { s.lines[l] with loopSet := set }).changeLine l (set != 0) with
      loopAnswer := some (.ack [byte s.lines[l].loopCause.val]) }
  else { s with loopAnswer := some (.nak 1) }

/-- The answer to a ROLL (R74): the loop set in both words; an empty set has no opening (R72). -/
def State.loopRoll (s : State) (l : LineId) : State :=
  { s with loopAnswer :=
      if s.lines[l].loopSet = 0 then none
      else some (.roll s.lines[l].loopSet (mirrored s.lines[l].loopSet)) }

/-- The loop responder forms its answer from the completed command (TABLE 3-7). -/
def State.formAnswer (s : State) (x : Exchange) : State :=
  match x.command, x.level, Address.station? x.station with
  | .roll, some l, _ => s.loopRoll l
  | .cause, some l, some st => s.loopCause l st
  | .read, _, some _ | .write, _, some _ | .control, _, some _ =>
    { s with loopAnswer := some (.ack x.payload) }
  | _, _, _ => { s with loopAnswer := none }

/-! ## SENDING (R37, R45) -/

/-- The phase after SENDING: GAP for a broadcast that is no ROLL, otherwise AWAITING (TABLE 2-5). -/
def Exchange.afterSending (x : Exchange) : Phase :=
  if x.station = 31 ∧ x.command ≠ .roll then .gap else .awaiting

/-- LINE_BECOMES_IDLE (R37): the frame is sent from that moment. -/
def execLineBecomesIdle (s : State) : Result :=
  .next (match s.inPhase .sending with
    | some x =>
      if s.mode ≠ .loopback ∧ s.lde = false then { s with lineActive := false }.sendFrame x else s
    | none => s)

/-- LINE_TEST_EXPIRY (R45): the line stayed active, and the exchange ends BLOCKED. -/
def execLineTestExpiry (s : State) : Result :=
  .next (match s.inPhase .sending with
    | some x => if s.mode ≠ .loopback ∧ s.lde = false then s.endExchange x .blocked else s
    | none => s)

/-- COMMAND_SENT (R37): the frame has been sent, or handed to the loop responder. -/
def execCommandSent (s : State) : Result :=
  .next (match s.inPhase .sending with
    | some x =>
      if s.mode = .loopback then (s.formAnswer x).toPhase x x.afterSending
      else if s.lde then s.stopLink.toPhase x x.afterSending
      else s
    | none => s)

/-! ## AWAITING (R38, R62, R68) -/

/-- REPLY_START (R38, R62). -/
def execReplyStart (s : State) : Result :=
  .next (match s.inPhase .awaiting with
    | some x =>
      if x.command ≠ .roll ∧ (s.mode = .loopback → s.loopReplies) then s.toPhase x .receiving else s
    | none => s)

/-- ROLL_CALL_OPENING (R38, R68). -/
def execRollCallOpening (s : State) : Result :=
  .next (match s.inPhase .awaiting with
    | some x =>
      if x.command = .roll ∧ (s.mode = .loopback → s.loopOpens) then s.toPhase x .receiving else s
    | none => s)

/-- The outcome of a reply window that expires with no start found (R38, R43). -/
def Exchange.windowOutcome (x : Exchange) : Outcome :=
  if x.command = .roll then .rollResult .consistent 0 0 else .silent

/-- REPLY_WINDOW_EXPIRY (R38). In LOOPBACK only a ROLL with no opening meets it (R72). -/
def execReplyWindowExpiry (s : State) : Result :=
  .next (match s.inPhase .awaiting with
    | some x =>
      if s.mode = .loopback → s.loopAnswer = none ∧ x.command = .roll then
        s.endExchange x x.windowOutcome
      else s
    | none => s)

/-! ## RECEIVING (R39, R42, R62, R69, R70) -/

/-- The exchange that is receiving a reply frame from the pair. -/
def State.receivingReply (s : State) : Option Exchange :=
  match s.inPhase .receiving with
  | some x => if x.command ≠ .roll ∧ s.mode ≠ .loopback then some x else none
  | none => none

/-- A broken reply ends the exchange GARBLED (R62). -/
def State.replyBreaks (s : State) : State :=
  match s.receivingReply with
  | some x => s.endExchange x .garbled
  | none => s

/-- REPLY_COMPLETE (R42, R56). In LOOPBACK the answer is the loop responder's and the characters are not
read (R72). -/
def execReplyComplete (characters : List Character) (s : State) : Result :=
  .next (match s.inPhase .receiving with
    | some x =>
      if x.command = .roll then s
      else
        match (if s.mode = .loopback then s.loopAnswer.bind LoopAnswer.outcome?
          else classifyCharacters x characters) with
        | some o => s.endExchange x o
        | none => s
    | none => s)

/-- REPLY_STALL (R39). -/
def execReplyStall (s : State) : Result := .next s.replyBreaks

/-- REPLY_FRAMING_ERROR (R56, R62). -/
def execReplyFramingError (s : State) : Result := .next s.replyBreaks

/-- REPLY_NO_START_MARK (R62). -/
def execReplyNoStartMark (first : Character) (s : State) : Result :=
  .next (if framingError first = false ∧ characterByte first = startMark then s else s.replyBreaks)

/-- REPLY_LENGTH_ABOVE_16 (R39, R62). -/
def execReplyLengthAbove16 (lengthCharacter : Character) (s : State) : Result :=
  .next (if framingError lengthCharacter = false ∧ lengthField (characterByte lengthCharacter) ≤ 16 then s
    else s.replyBreaks)

/-- The exchange that is receiving a roll call. -/
def State.receivingRoll (s : State) : Option Exchange :=
  match s.inPhase .receiving with
  | some x => if x.command = .roll then some x else none
  | none => none

/-- The outcome of a roll call that has run to its end: as sampled on the pair, or of the loop responder's
words, whose response nothing can break (R72). -/
def State.rollEnds (s : State) (values checks : RollSamples) : Outcome :=
  match s.mode, s.loopAnswer with
  | .loopback, some (.roll p m) => .rollResult (rollVerdict p m) p m
  | _, _ => rollOutcome values checks

/-- ROLL_CALL_COMPLETE (R43, R69). -/
def execRollCallComplete (values checks : RollSamples) (s : State) : Result :=
  .next (match s.receivingRoll with
    | some x => s.endExchange x (s.rollEnds values checks)
    | none => s)

/-- ROLL_CALL_BROKEN (R70): the samples taken up to the check of `period` hold a break. -/
def execRollCallBroken (period : Fin 63) (values checks : RollSamples) (s : State) : Result :=
  .next (match s.receivingRoll with
    | some x =>
      if s.mode ≠ .loopback ∧ (firstBreak checks).any (fun k => decide (k ≤ period)) then
        s.endExchange x (rollOutcome values checks)
      else s
    | none => s)

/-! ## GAP (R40, R64) -/

/-- BROADCAST_GAP_EXPIRY (R40). -/
def execBroadcastGapExpiry (s : State) : Result :=
  .next (match s.inPhase .gap with
    | some x => s.endExchange x .broadcastDone
    | none => s)

end Sys2Proof.Machine
end

