-- ==== Sys2Proof/Machine/Clocks.lean ====
section
/-! DEFINITION. The clock and reset unit (chapter 8): crystal loss and return, the three resets, start-up,
and the two requests of the reset-cause record. -/

namespace Sys2Proof.Machine

/-! ## The crystal outside start-up (R154, R155) -/

/-- The control port loses its line: holding and partial frame discarded, overrun marker absent, a reply
being sent cut off (R174). -/
def State.emptyPort (s : State) : State :=
  { s with intake := .search, holding := [], overrun := none, reply := none }

/-- A loss found in DORMANT before the crystal has been stopped (R146): with a wake source recorded the
crystal is started at once. -/
def State.dormantLoss (s : State) : State :=
  { s.emptyPort with
    clockSource := .lowSpeed
    monitorRunning := false
    crystal := if s.wake.isSome then .starting else .off }

/-- A loss found in any other mode: the four steps of R154. The fault carries the mode, the dispatcher
state and the exchange as they stood when the loss was found. HOLD is forced and the port emptied in the
same step (R154, R174), so a look or a frame that comes later finds nothing to do; a TABLE_CHECK or a CLEAR
FAULT of the same moment, with the loss taken first (R165, R167), is its own command's operand
(logs 36, 37). -/
def State.crystalLost (s : State) : State :=
  let t := { s.emptyPort with clockSource := .lowSpeed, monitorRunning := false, crystal := .starting }
  let u := if s.dispatcher = .busy then t.abandonFlight else t
  (u.takeFaultElsewhere (faultOf .crystalLost u.uptime s.mode s.dispatcher s.exchange)).forceHold .clock

/-- The crystal stops: only a RUNNING monitor finds it (R154). -/
def State.findLoss (s : State) : State :=
  if s.monitorRunning then (if s.mode = .dormant then s.dormantLoss else s.crystalLost) else s

/-- CRYSTAL_LOSS (R154). -/
def execCrystalLoss (s : State) : Result := .next s.findLoss

/-- The clock source returns to the crystal (R155, R149 steps 1 and 2): monitor RUNNING, the receiver in
sync search, the filter time of the settings record. -/
def State.crystalReturns (s : State) : State :=
  { s with
    clockSource := .crystal
    crystal := .stable
    monitorRunning := true
    intake := .search }.retimeFilters

/-- CRYSTAL_STABLE (R155). -/
def execCrystalStable (s : State) : Result :=
  .next (if s.crystal = .starting ∧ s.mode ≠ .dormant ∧ s.startUp = .done then s.crystalReturns else s)

/-! ## Resets (R156, R157, R168) -/

/-- The fault record at the start of a reset (R168). -/
def faultAtReset (cause : ResetCause) (f : Option FaultRecord) : Option FaultRecord :=
  match cause with
  | .power => none
  | .pin | .command => f.map (fun r => { r with retained := true })

/-- The start of a reset: every block takes its reset values, the crystal becomes OFF, and the uptime
stands at 0 while the reset is held (R156, R159). The pins, the reset conditions and the rate sampled
last are not reset; the queue of commands is outside the part (log 30). -/
def State.beginReset (s : State) (cause : ResetCause) : State :=
  { State.reset with
    pending := s.pending
    lines := mapAll (fun r : Line => { Line.reset with pin := r.pin }) s.lines
    fault := faultAtReset cause s.fault
    freeCount := s.freeCount
    crystal := .off
    lastCause := cause
    supplyFlag := decide (cause = .power) || s.supplyFlag
    startUp := .inReset
    supply := s.supply
    resetPin := s.resetPin
    pinResetHeld := s.pinResetHeld
    rate1Pin := s.rate1Pin
    rate0Pin := s.rate0Pin
    portRate := s.portRate }

/-- The control port rate the straps give (TABLE 8-2). -/
def strapRate (rate1 rate0 : Bool) : PortRate :=
  match rate1, rate0 with
  | false, false => .r115200
  | false, true => .r230400
  | true, false => .r460800
  | true, true => .r921600

/-- A reset ends when no reset condition remains; start-up then samples the straps and starts the crystal
(R156, R158 steps 1 to 3). -/
def State.endReset (s : State) : State :=
  if s.startUp = .inReset ∧ s.supply = .good ∧ s.pinResetHeld = false then
    { s with
      startUp := .waiting
      crystal := .starting
      portRate := strapRate s.rate1Pin s.rate0Pin }
  else s

/-- POWER_RESET (R156): the supply falls below its trip level. -/
def execPowerReset (s : State) : Result :=
  .next (if s.supply = .below then s else { s.beginReset .power with supply := .below })

/-- SUPPLY_RISES_ABOVE_TRIP_LEVEL (R156): the 1 ms delay begins. -/
def execSupplyRisesAboveTripLevel (s : State) : Result :=
  .next (if s.supply = .below then { s with supply := .delay } else s)

/-- POWER_RESET_DELAY_EXPIRY (R156): the POWER condition ends. -/
def execPowerResetDelayExpiry (s : State) : Result :=
  .next (if s.supply = .delay then { s with supply := .good }.endReset else s)

/-- RESET_PIN_ASSERTED (R156): the 64 us qualification begins. -/
def execResetPinAsserted (s : State) : Result := .next { s with resetPin := true }

/-- PIN_RESET (R156): RESET# has stood asserted for 64 us. -/
def execPinReset (s : State) : Result :=
  .next (if s.resetPin ∧ s.pinResetHeld = false then
    { s.beginReset .pin with pinResetHeld := true }
  else s)

/-- RESET_PIN_NEGATED (R156): the PIN condition ends. A pulse that has not begun a reset is not taken. -/
def execResetPinNegated (s : State) : Result :=
  .next (if s.pinResetHeld then { s with resetPin := false, pinResetHeld := false }.endReset
    else { s with resetPin := false })

/-- A COMMAND reset begins as the RESET reply ends, and ends at once where no other condition holds
(R156). -/
def State.commandReset (s : State) : State := (s.beginReset .command).endReset

/-- The OK reply of RESET is leaving TXD (R156). -/
def State.sendingReset (s : State) : Bool := s.reply.any Reply.isReset

/-- COMMAND_RESET (R156): the last stop bit of the RESET reply leaves TXD. -/
def execCommandReset (s : State) : Result :=
  .next (if s.sendingReset then s.commandReset else s)

/-! ## Start-up (R158) -/

/-- STARTUP_CRYSTAL_STABLE (R158 steps 4 and 6). -/
def execStartupCrystalStable (s : State) : Result :=
  .next (if s.startUp = .waiting then { s with startUp := .done }.crystalReturns else s)

/-- CRYSTAL_START_TIMEOUT (R158 steps 5 and 6). -/
def execCrystalStartTimeout (s : State) : Result :=
  .next (if s.startUp = .waiting then
    { s with startUp := .done }.takeFault
      (faultOf .crystalLost s.uptime .configuration .stopped none)
  else s)

/-! ## Requests -/

/-- RESET (R156): the reply is sent first; the reset begins at its end. -/
def serveReset (s : State) : Served := accepted s

/-- CLEAR CAUSE (R157). -/
def serveClearCause (s : State) : Served := accepted { s with supplyFlag := false }

end Sys2Proof.Machine
end

