-- ==== Sys2Proof/Machine/Modes.lean ====
section
/-! DEFINITION. The mode controller (chapter 7): SET MODE, entry to DORMANT and the wake from it. -/

namespace Sys2Proof.Machine

/-! ## Dormancy (R145, R146) -/

/-- The five conditions of R145. -/
def State.dormancyAllowed (s : State) : Bool :=
  (decide (s.dispatcher = .idle) || decide (s.dispatcher = .stopped)) &&
    allSlots.all (fun i => decide (s.slots[i].state ≠ .ready) && decide (s.slots[i].state ≠ .active)) &&
    !s.attentionOutstanding && s.reports.isEmpty && s.fault.all FaultRecord.retained

/-- DORMANT is entered at the taking of SET MODE (R146); a partial frame and the frames held behind the
request are discarded, and its own frame stays until its reply has left TXD (R174). -/
def State.enterDormant (s : State) : State :=
  { s with
    mode := .dormant
    dispatcher := .stopped
    silence := none
    lde := false
    linkFrame := none
    intake := .search
    holding := s.holding.take 1
    overrun := none }

/-- The crystal and the clock monitor are stopped (R146). -/
def State.stopCrystal (s : State) : State :=
  { s with crystal := .off, clockSource := .lowSpeed, monitorRunning := false }

/-! ## SET MODE (R137, R138) -/

/-- The transition waits for an exchange in flight: entry to CONFIGURATION, and entering or leaving
LOOPBACK (TABLE 7-2). -/
def State.mustWait (s : State) (target : Mode) : Bool :=
  s.inFlight && (decide (target = .configuration) || decide (target = .loopback) ||
    decide (s.mode = .loopback))

/-- The first check of R137 that a target mode fails. -/
def State.modeRefusal (s : State) (target : Mode) : Option Status :=
  if target = .halted ∨ target = s.mode then some .badValue
  else if s.requested.isSome then some .modePending
  else if 2 < s.systemOccupied then some .reportsFull
  else if s.mode = .loopback ∧ target = .dormant then some .mode
  else if target = .dormant ∧ s.dormancyAllowed = false then some .pending
  else none

/-- A SET MODE that passes every check is carried out or recorded (R138). -/
def State.takeMode (s : State) (target : Mode) : State :=
  if target = .dormant then s.enterDormant
  else if s.mustWait target then { s with requested := some target }
  else s.changeMode target .request

/-- SET MODE (R137). -/
def serveSetMode (target : Byte) (s : State) : Served :=
  match Mode.ofCode target with
  | none => refused s .badValue
  | some m =>
    match s.modeRefusal m with
    | some st => refused s st
    | none => accepted (s.takeMode m)

/-! ## Wake (R148 to R150) -/

/-- Steps 3 to 6 of R149: HOLD, the wake source absent, the MODE report, the soft levels tested. -/
def State.leaveDormant (s : State) : State :=
  ({ s with mode := .hold, wake := none }.reportMode .dormant .hold .wake s.wake).softTests

/-- The wake completes on the crystal (R149). -/
def State.wakeOnCrystal (s : State) : State := s.crystalReturns.leaveDormant

/-- The wake completes with the crystal not started (R150): a CRYSTAL_LOST fault, then HOLD. -/
def State.wakeOnLowSpeed (s : State) : State :=
  let t := s.takeFault (faultOf .crystalLost s.uptime .dormant .stopped none)
  if t.mode = .dormant then t.leaveDormant else t

/-- A wake is under way and its crystal is started, or was never stopped and the reply has left TXD
(R146, R149). -/
def State.wakeReady (s : State) : Bool :=
  decide (s.mode = .dormant) && s.wake.isSome &&
    (decide (s.crystal = .starting) || (decide (s.crystal = .stable) && s.reply.isNone))

/-- RXD_ACTIVITY (R148): the wake source HOST. -/
def execRxdActivity (s : State) : Result := .next (s.tellWake .host)

/-- WAKE_COMPLETE (R149). -/
def execWakeComplete (s : State) : Result := .next (if s.wakeReady then s.wakeOnCrystal else s)

/-- WAKE_CRYSTAL_TIMEOUT (R150). -/
def execWakeCrystalTimeout (s : State) : Result :=
  .next (if s.mode = .dormant ∧ s.wake.isSome ∧ s.crystal = .starting then s.wakeOnLowSpeed else s)

/-- The reply to the SET MODE that entered DORMANT has left TXD (R146): the crystal is stopped, or, with
a wake source recorded, the wake completes where the crystal is still stable. -/
def State.dormantReplyEnds (s : State) : State :=
  let t := { s with reply := none, holding := s.holding.tail }
  if s.wake = none then t.stopCrystal else if s.crystal = .stable then t.wakeOnCrystal else t

/-- DORMANT_CRYSTAL_STOP (R146): the reply has left TXD and no wake source is recorded. -/
def execDormantCrystalStop (s : State) : Result :=
  .next (if s.mode = .dormant ∧ s.wake = none ∧ s.crystal = .stable then s.dormantReplyEnds else s)

end Sys2Proof.Machine
end

