-- ==== Sys2Proof/Machine/ControlPort.lean ====
section
/-! DEFINITION. The control port (chapter 10): judging a frame, holding and taking, the receiver, and the
end of a reply. -/

namespace Sys2Proof.Machine

/-! ## Judging a frame (R173) -/

/-- A request handed to the block that owns it (TABLE 10-2). -/
def serve (r : Request) (s : State) : Served :=
  match r with
  | .loadSlot n st c p rl t o payload => serveLoadSlot n st c p rl t o payload s
  | .releaseSlot n => serveReleaseSlot n s
  | .readSlot n => serveReadSlot n s
  | .start set => serveStart set s
  | .abortSlot n => serveAbortSlot n s
  | .abortAll => serveAbortAll s
  | .stepEnable => serveStepEnable s
  | .stepDisable => serveStepDisable s
  | .stepAdvance => serveStepAdvance s
  | .enroll a mask => serveEnroll a mask s
  | .withdraw a => serveWithdraw a s
  | .restore a => serveRestore a s
  | .setCauseMask a mask => serveSetCauseMask a mask s
  | .readStation a => serveReadStation a s
  | .setThreshold t => serveSetThreshold t s
  | .unmask l => serveUnmask l s
  | .raise l => serveRaise l s
  | .setLoopAttention l set c => serveSetLoopAttention l set c s
  | .readAttention => serveReadAttention s
  | .setTimer n src reload soft flags => serveSetTimer n src reload soft flags s
  | .readTimers c => serveReadTimers c s
  | .setMode t => serveSetMode t s
  | .reset => serveReset s
  | .clearCause => serveClearCause s
  | .fetch n => serveFetch n s
  | .readFault => serveReadFault s
  | .clearFault => serveClearFault s
  | .writeSettings mask values => serveWriteSettings mask values s
  | .readSettings => serveReadSettings s
  | .identify => serveIdentify s
  | .status => serveStatus s

/-- An ERROR reply, of kind 255 (R172, R173). -/
def errorReply (tag : Byte) (status : Status) (body : List Byte) : Reply where
  kind := 0xFF
  tag := tag
  status := status
  body := body

/-- The kind of the reply to a request kind: its high flag set (R171). -/
def replyKind (kind : Byte) : Byte := kind ||| 0x80

/-- The reply to a frame that a test of R173 turns away under its own kind. -/
def turnedAway (f : Frame) (status : Status) : Reply where
  kind := replyKind f.kind
  tag := f.tag
  status := status
  body := []

/-- The host-silence timer starts again from the host timeout, in RUN only (R142). -/
def State.restartSilence (s : State) : State :=
  if s.mode = .run then { s with silence := s.settings.silenceStart } else s

/-- A request that has passed the tests of R173 is handed to its owner, whose status is the reply's. -/
def answer (f : Frame) (r : Request) (s : State) : State × Reply :=
  let v := serve r s
  (v.1, { kind := replyKind f.kind, tag := f.tag, status := v.2.1, body := v.2.2 })

/-- A frame at its taking, judged by the four tests of R173 in order. -/
def judge (f : Frame) (s : State) : State × Reply :=
  if frameCheck f.kind f.tag f.body ≠ f.check then (s, errorReply f.tag .badCheck [])
  else if isRequestKind f.kind = false then (s.restartSilence, errorReply f.tag .unknownKind [])
  else match readBody f.kind f.body with
    | none => (s.restartSilence, turnedAway f .badLength)
    | some r =>
      if s.mode = .halted ∧ Request.takenInHalted r = false then (s.restartSilence, turnedAway f .halted)
      else answer f r s.restartSilence

/-! ## Holding and taking (R171, R172) -/

/-- The head frame is taken, and its reply is sent at once; it stays at the head until the reply's end
(R171). -/
def State.takeHead (s : State) : State :=
  match s.holding with
  | [] => s
  | f :: _ =>
    let v := judge f s
    { v.1 with reply := some v.2 }

/-- A frame completes (R171, R172): counted into a marker that is present, held where there is room,
otherwise the first of a new marker; taken at once with the transmitter idle. -/
def State.frameArrives (s : State) (f : Frame) : State :=
  if s.takesFrames then
    let t := { s with intake := .search }
    match s.overrun with
    | some m => { t with overrun := some { m with count := min 255 (m.count + 1) } }
    | none =>
      if s.holding.length < 2 then
        let u := { t with holding := s.holding ++ [f] }
        if s.reply.isNone then u.takeHead else u
      else { t with overrun := some ⟨f.tag, 1⟩ }
  else s

/-- A whole request frame with a good CHECK arrives (log 4). -/
def State.receive (s : State) (tag : Byte) (r : Request) : State :=
  s.frameArrives (goodFrame (Request.kind r) tag (Request.body r))

/-! ## The receiver (R170) -/

/-- The CHECK byte completes the frame collected, whose first two bytes are KIND and TAG. -/
def State.completeFrame (s : State) (collected : List Byte) (check : Byte) : State :=
  match collected with
  | kind :: tag :: body => s.frameArrives ⟨kind, tag, body, check⟩
  | _ => s

/-- A LEN byte in LENGTH: 2..66 opens BODY, any other returns to SEARCH (R170). -/
def intakeAfterLen (len : Byte) : Intake :=
  if 2 ≤ len.toNat ∧ len.toNat ≤ 66 then .body len.toNat [] else .search

/-- A byte received while the receiver takes characters for frames (R170). -/
def State.receiveByte (s : State) (b : Byte) : State :=
  match s.intake with
  | .search => if b = 0xA5 then { s with intake := .length } else s
  | .length => { s with intake := intakeAfterLen b }
  | .body len collected =>
    if collected.length < len then { s with intake := .body len (collected ++ [b]) }
    else s.completeFrame collected b

/-- A character with a framing error is discarded with its partial frame (R170). -/
def State.receiveCharacter (s : State) (c : Character) : State :=
  if framingError c then { s with intake := .search } else s.receiveByte (characterByte c)

/-- REQUEST_BYTE_RECEIVED (R169, R170); at other times the character is discarded (R169). -/
def execRequestByteReceived (character : Character) (s : State) : Result :=
  .next (if s.takesFrames then s.receiveCharacter character else s)

/-- REQUEST_FRAME_COMPLETE (R170, R171): the CHECK byte of the frame being collected arrives. -/
def execRequestFrameComplete (check : Character) (s : State) : Result :=
  .next (match s.intake with
    | .body len collected => if collected.length = len then s.receiveCharacter check else s
    | _ => s)

/-- LEN_OUT_OF_RANGE (R170): the SYNC and the LEN are discarded. -/
def execLenOutOfRange (len : Character) (s : State) : Result :=
  .next (if s.intake = .length ∧ (framingError len ∨ intakeAfterLen (characterByte len) = .search) then
    { s with intake := .search }
  else s)

/-- INTER_BYTE_TIMEOUT (R170): a partial frame is discarded. -/
def execInterByteTimeout (s : State) : Result := .next { s with intake := .search }

/-- CONTROL_PORT_FRAMING_ERROR (R169, R170): the character is discarded with its partial frame. -/
def execControlPortFramingError (s : State) : Result := .next { s with intake := .search }

/-- UNKNOWN_KIND (R173): a frame with a good CHECK whose KIND is not a request kind arrives. -/
def execUnknownKind (tag kind : Byte) (body : List Byte) (s : State) : Result :=
  .next (if isRequestKind kind then s else s.frameArrives (goodFrame kind tag body))

/-! ## The end of a reply (R171, R172) -/

/-- After a reply: the next head is taken, or the OVERRUN reply is sent, or TXD stays idle. The count byte
is fixed as the OVERRUN reply begins: a frame that completes while it leaves TXD is counted into the
marker (R172), but that reply does not tell of it, and the marker ends with it (the model's choice,
log 33). -/
def State.nextReply (s : State) : State :=
  if s.holding = [] then
    match s.overrun with
    | none => s
    | some m => { s with reply := some (errorReply m.tag .overrun [byte m.count]) }
  else s.takeHead

/-- The end of a reply outside DORMANT that is not RESET's: the OVERRUN reply gives up the marker; any
other lets its frame leave the holding. -/
def State.portReplyEnds (s : State) (r : Reply) : State :=
  if r.isOverrun then { s with reply := none, overrun := none }.nextReply
  else { s with reply := none, holding := s.holding.tail }.nextReply

/-- REPLY_END (R171). The end of RESET's reply is also COMMAND_RESET, and the end of the reply that
entered DORMANT is also DORMANT_CRYSTAL_STOP or WAKE_COMPLETE (log 13). -/
def execReplyEnd (s : State) : Result :=
  .next (match s.reply with
    | none => s
    | some r =>
      if r.isReset then s.commandReset
      else if s.mode = .dormant then s.dormantReplyEnds
      else s.portReplyEnds r)

end Sys2Proof.Machine
end

