-- ==== Sys2Proof/Machine/Losses.lean ====
section
/-! DEFINITION. The two events that may reach the report unit in one moment with a crystal loss and be
taken behind it: a taking that finds a TABLE_CHECK (R165) and a CLEAR FAULT (R167). -/

namespace Sys2Proof.Machine

/-! ## A taking (R165, R166) -/

/-- A taking of the moment in which the crystal's loss is found, the loss taken first: a code that does not
agree cancels it, and its TABLE_CHECK is the second fault; a taking whose codes agree starts no exchange,
since the mode is HOLD by then (R30). Where the loss has itself halted the part, the taking ends with it: a
third fault comes from a crystal loss only (R165). That the loss's whole step comes before the reports of
the taking is the model's choice (log 36). -/
def State.takeBehindLoss (s : State) (x : Exchange) (u : Upset) : State :=
  if s.findLoss.mode = .halted then s.findLoss else s.findLoss.tested x u (fun _ => s.findLoss)

/-- The dispatcher looks in the moment of a loss that the report unit takes first. With no loss found, or
nothing to take, the two are events apart. -/
def State.lookBehindLoss (s : State) (active : Bool) (u : Upset) : State :=
  if s.monitorRunning && s.canStart then
    match s.candidate with
    | none => s.findLoss
    | some x => s.takeBehindLoss x u
  else s.findLoss.look active u

/-- TAKE_CANDIDATE (R30 to R34), alone or behind a crystal loss of the same moment (R165, log 36). -/
def execTakeCandidate (lineActive : Bool) (upset : Meeting Upset) (s : State) : Result :=
  .next (match upset with
    | .alone u => s.look lineActive u
    | .behindLoss u => s.lookBehindLoss lineActive u)

/-! ## CLEAR FAULT (R167, R174) -/

/-- A CLEAR FAULT of the moment in which the crystal's loss is found, the loss taken first: its frame is
taken, and it empties the record that the loss has filled, or is refused in HALTED (R167). Its reply is cut
off with the port (R174). With no loss found, or no frame taken at once, the two are events apart, and a
frame behind a loss is discarded: R174 discards what the holding holds, and the model lets R167 go before it
only for a frame that is being taken (log 37). -/
def State.clearBehindLoss (s : State) (tag : Byte) : State :=
  if s.monitorRunning && s.takesAtOnce then
    if s.findLoss.mode = .halted then s.findLoss else (serveClearFault s.findLoss).1
  else s.findLoss.receive tag .clearFault

/-- CLEAR_FAULT (R167), alone or behind a crystal loss of the same moment (log 37). -/
def execClearFault (tag : Meeting Byte) (s : State) : Result :=
  .next (match tag with
    | .alone tag => s.receive tag .clearFault
    | .behindLoss tag => s.clearBehindLoss tag)

end Sys2Proof.Machine
end

