-- ==== Sys2Proof/Machine/Requests.lean ====
section
/-! DEFINITION. The meanings of the request rows (CLEAR_FAULT's stands in Losses.lean): the whole frame of
the request, with a good CHECK, arrives at the control port (R171; log 4), which judges it (R173) and hands
it to its owner. -/

namespace Sys2Proof.Machine

/-- LOAD_SLOT (R7, R8). -/
def execLoadSlot (tag slot station command priority retryLimit trigger options : Byte)
    (payload : List Byte) (s : State) : Result :=
  .next (s.receive tag (.loadSlot slot station command priority retryLimit trigger options payload))

/-- RELEASE_SLOT (R9). -/
def execReleaseSlot (tag slot : Byte) (s : State) : Result :=
  .next (s.receive tag (.releaseSlot slot))

/-- READ_SLOT (R10). -/
def execReadSlot (tag slot : Byte) (s : State) : Result := .next (s.receive tag (.readSlot slot))

/-- START (R11, R12). -/
def execStart (tag : Byte) (slots : SlotSet) (s : State) : Result :=
  .next (s.receive tag (.start slots))

/-- ABORT_SLOT (R21). -/
def execAbortSlot (tag slot : Byte) (s : State) : Result := .next (s.receive tag (.abortSlot slot))

/-- ABORT_ALL (R22). -/
def execAbortAll (tag : Byte) (s : State) : Result := .next (s.receive tag .abortAll)

/-- STEP_ENABLE (R50). -/
def execStepEnable (tag : Byte) (s : State) : Result := .next (s.receive tag .stepEnable)

/-- STEP_DISABLE (R50). -/
def execStepDisable (tag : Byte) (s : State) : Result := .next (s.receive tag .stepDisable)

/-- STEP_ADVANCE (R53). -/
def execStepAdvance (tag : Byte) (s : State) : Result := .next (s.receive tag .stepAdvance)

/-- ENROLL (R79). -/
def execEnroll (tag station : Byte) (mask : Half) (s : State) : Result :=
  .next (s.receive tag (.enroll station mask))

/-- WITHDRAW (R80). -/
def execWithdraw (tag station : Byte) (s : State) : Result :=
  .next (s.receive tag (.withdraw station))

/-- RESTORE (R81). -/
def execRestore (tag station : Byte) (s : State) : Result :=
  .next (s.receive tag (.restore station))

/-- SET_CAUSE_MASK (R82). -/
def execSetCauseMask (tag station : Byte) (mask : Half) (s : State) : Result :=
  .next (s.receive tag (.setCauseMask station mask))

/-- READ_STATION (R83). -/
def execReadStation (tag station : Byte) (s : State) : Result :=
  .next (s.receive tag (.readStation station))

/-- SET_THRESHOLD (R98). -/
def execSetThreshold (tag threshold : Byte) (s : State) : Result :=
  .next (s.receive tag (.setThreshold threshold))

/-- UNMASK (R110). -/
def execUnmask (tag level : Byte) (s : State) : Result := .next (s.receive tag (.unmask level))

/-- RAISE (R111). -/
def execRaise (tag level : Byte) (s : State) : Result := .next (s.receive tag (.raise level))

/-- SET_LOOP_ATTENTION (R113). -/
def execSetLoopAttention (tag level : Byte) (stations : BitVec 32) (cause : Byte)
    (s : State) : Result :=
  .next (s.receive tag (.setLoopAttention level stations cause))

/-- READ_ATTENTION (R116). -/
def execReadAttention (tag : Byte) (s : State) : Result := .next (s.receive tag .readAttention)

/-- SET_TIMER (R128). -/
def execSetTimer (tag timer source : Byte) (reload : Half) (softLevel flags : Byte)
    (s : State) : Result :=
  .next (s.receive tag (.setTimer timer source reload softLevel flags))

/-- READ_TIMERS (R130). -/
def execReadTimers (tag clearTallies : Byte) (s : State) : Result :=
  .next (s.receive tag (.readTimers clearTallies))

/-- SET_MODE (R137). -/
def execSetMode (tag target : Byte) (s : State) : Result := .next (s.receive tag (.setMode target))

/-- RESET (R156). -/
def execReset (tag : Byte) (s : State) : Result := .next (s.receive tag .reset)

/-- CLEAR_CAUSE (R157). -/
def execClearCause (tag : Byte) (s : State) : Result := .next (s.receive tag .clearCause)

/-- FETCH (R162). -/
def execFetch (tag count : Byte) (s : State) : Result := .next (s.receive tag (.fetch count))

/-- READ_FAULT (R167). -/
def execReadFault (tag : Byte) (s : State) : Result := .next (s.receive tag .readFault)

/-- WRITE_SETTINGS (R175). -/
def execWriteSettings (tag mask : Byte) (values : List Byte) (s : State) : Result :=
  .next (s.receive tag (.writeSettings mask values))

/-- READ_SETTINGS (R175). -/
def execReadSettings (tag : Byte) (s : State) : Result := .next (s.receive tag .readSettings)

/-- IDENTIFY (R176). -/
def execIdentify (tag : Byte) (s : State) : Result := .next (s.receive tag .identify)

/-- STATUS (R177). -/
def execStatus (tag : Byte) (s : State) : Result := .next (s.receive tag .status)

end Sys2Proof.Machine
end

