-- ==== Sys2Proof/Machine/Dispatch.lean ====
section
/-! DEFINITION. What each command does: one arm per constructor. -/

namespace Sys2Proof.Machine

def exec (i : Instr) (s : State) : Host.Outcome State Fault Refusal :=
  match i with
  | .loadSlot tag slot station command priority retryLimit trigger options payload => Sys2Proof.Machine.execLoadSlot tag slot station command priority retryLimit trigger options payload s
  | .releaseSlot tag slot => Sys2Proof.Machine.execReleaseSlot tag slot s
  | .readSlot tag slot => Sys2Proof.Machine.execReadSlot tag slot s
  | .start tag slots => Sys2Proof.Machine.execStart tag slots s
  | .abortSlot tag slot => Sys2Proof.Machine.execAbortSlot tag slot s
  | .abortAll tag => Sys2Proof.Machine.execAbortAll tag s
  | .stepEnable tag => Sys2Proof.Machine.execStepEnable tag s
  | .stepDisable tag => Sys2Proof.Machine.execStepDisable tag s
  | .stepAdvance tag => Sys2Proof.Machine.execStepAdvance tag s
  | .enroll tag station mask => Sys2Proof.Machine.execEnroll tag station mask s
  | .withdraw tag station => Sys2Proof.Machine.execWithdraw tag station s
  | .restore tag station => Sys2Proof.Machine.execRestore tag station s
  | .setCauseMask tag station mask => Sys2Proof.Machine.execSetCauseMask tag station mask s
  | .readStation tag station => Sys2Proof.Machine.execReadStation tag station s
  | .setThreshold tag threshold => Sys2Proof.Machine.execSetThreshold tag threshold s
  | .unmask tag level => Sys2Proof.Machine.execUnmask tag level s
  | .raise tag level => Sys2Proof.Machine.execRaise tag level s
  | .setLoopAttention tag level stations cause => Sys2Proof.Machine.execSetLoopAttention tag level stations cause s
  | .readAttention tag => Sys2Proof.Machine.execReadAttention tag s
  | .setTimer tag timer source reload softLevel flags => Sys2Proof.Machine.execSetTimer tag timer source reload softLevel flags s
  | .readTimers tag clearTallies => Sys2Proof.Machine.execReadTimers tag clearTallies s
  | .setMode tag target => Sys2Proof.Machine.execSetMode tag target s
  | .reset tag => Sys2Proof.Machine.execReset tag s
  | .clearCause tag => Sys2Proof.Machine.execClearCause tag s
  | .fetch tag count => Sys2Proof.Machine.execFetch tag count s
  | .readFault tag => Sys2Proof.Machine.execReadFault tag s
  | .clearFault tag => Sys2Proof.Machine.execClearFault tag s
  | .writeSettings tag mask values => Sys2Proof.Machine.execWriteSettings tag mask values s
  | .readSettings tag => Sys2Proof.Machine.execReadSettings tag s
  | .identify tag => Sys2Proof.Machine.execIdentify tag s
  | .status tag => Sys2Proof.Machine.execStatus tag s
  | .unknownKind tag kind body => Sys2Proof.Machine.execUnknownKind tag kind body s
  | .requestFrameComplete check => Sys2Proof.Machine.execRequestFrameComplete check s
  | .replyEnd => Sys2Proof.Machine.execReplyEnd s
  | .interByteTimeout => Sys2Proof.Machine.execInterByteTimeout s
  | .controlPortFramingError => Sys2Proof.Machine.execControlPortFramingError s
  | .lenOutOfRange len => Sys2Proof.Machine.execLenOutOfRange len s
  | .hostSilenceExpiry => Sys2Proof.Machine.execHostSilenceExpiry s
  | .takeCandidate lineActive upset => Sys2Proof.Machine.execTakeCandidate lineActive upset s
  | .lineBecomesIdle => Sys2Proof.Machine.execLineBecomesIdle s
  | .lineTestExpiry => Sys2Proof.Machine.execLineTestExpiry s
  | .commandSent => Sys2Proof.Machine.execCommandSent s
  | .replyWindowExpiry => Sys2Proof.Machine.execReplyWindowExpiry s
  | .replyStart => Sys2Proof.Machine.execReplyStart s
  | .replyComplete characters => Sys2Proof.Machine.execReplyComplete characters s
  | .replyStall => Sys2Proof.Machine.execReplyStall s
  | .replyFramingError => Sys2Proof.Machine.execReplyFramingError s
  | .replyNoStartMark first => Sys2Proof.Machine.execReplyNoStartMark first s
  | .replyLengthAbove16 lengthCharacter => Sys2Proof.Machine.execReplyLengthAbove16 lengthCharacter s
  | .rollCallOpening => Sys2Proof.Machine.execRollCallOpening s
  | .rollCallComplete values checks => Sys2Proof.Machine.execRollCallComplete values checks s
  | .rollCallBroken period values checks => Sys2Proof.Machine.execRollCallBroken period values checks s
  | .broadcastGapExpiry => Sys2Proof.Machine.execBroadcastGapExpiry s
  | .timerUnderflow timer => Sys2Proof.Machine.execTimerUnderflow timer s
  | .attentionLineChange level asserted => Sys2Proof.Machine.execAttentionLineChange level asserted s
  | .attentionFilterExpiry level => Sys2Proof.Machine.execAttentionFilterExpiry level s
  | .softAttentionReport level => Sys2Proof.Machine.execSoftAttentionReport level s
  | .dormantCrystalStop => Sys2Proof.Machine.execDormantCrystalStop s
  | .rxdActivity => Sys2Proof.Machine.execRxdActivity s
  | .wakeComplete => Sys2Proof.Machine.execWakeComplete s
  | .wakeCrystalTimeout => Sys2Proof.Machine.execWakeCrystalTimeout s
  | .crystalLoss => Sys2Proof.Machine.execCrystalLoss s
  | .crystalStable => Sys2Proof.Machine.execCrystalStable s
  | .startupCrystalStable => Sys2Proof.Machine.execStartupCrystalStable s
  | .crystalStartTimeout => Sys2Proof.Machine.execCrystalStartTimeout s
  | .powerReset => Sys2Proof.Machine.execPowerReset s
  | .powerResetDelayExpiry => Sys2Proof.Machine.execPowerResetDelayExpiry s
  | .pinReset => Sys2Proof.Machine.execPinReset s
  | .resetPinNegated => Sys2Proof.Machine.execResetPinNegated s
  | .commandReset => Sys2Proof.Machine.execCommandReset s
  | .timeBaseTick divider => Sys2Proof.Machine.execTimeBaseTick divider s
  | .requestByteReceived character => Sys2Proof.Machine.execRequestByteReceived character s
  | .supplyRisesAboveTripLevel => Sys2Proof.Machine.execSupplyRisesAboveTripLevel s
  | .resetPinAsserted => Sys2Proof.Machine.execResetPinAsserted s

end Sys2Proof.Machine
end

