-- ==== Sys2Proof/Safety.lean ====
section
/-! DEFINITION. What the claims are stated in: the relations that every step keeps, and the conditions and
results that several claims share. -/

namespace Sys2Proof.Safety

open Sys2Proof Sys2Proof.Machine

/-! ## Relations between the fields, kept by every step -/

/-- While the mode is HALTED the fault record is occupied, not retained, and holds a second fault kind
(R165); the requested mode, when present, is CONFIGURATION, RUN, HOLD or LOOPBACK (R136). -/
abbrev HaltedHoldsSecond (s : State) : Prop :=
  (s.mode = .halted → s.fault.any (fun r => !r.retained && r.second.isSome)) ∧
    s.requested ≠ some .halted ∧ s.requested ≠ some .dormant

/-- One timer record (R119, R123): reload 1..4095, count at most the reload and at least 1 while enabled,
tally at most 15, source CASCADE never on timer 0. -/
abbrev TimerBounded (n : TimerId) (r : Timer) : Prop :=
  1 ≤ r.reload ∧ r.reload ≤ 4095 ∧ r.count ≤ r.reload ∧ (r.enabled → 1 ≤ r.count) ∧ r.tally ≤ 15 ∧
    ¬ (n = 0 ∧ r.source = .cascade)

/-- Every timer record is in its bounds (R119, R123). -/
abbrev TimersBounded (s : State) : Prop := ∀ n : TimerId, TimerBounded n s.timers[n]

/-- One slot record's optional fields (R1): the refusal reason is present exactly while the outcome is
REFUSED, the response exactly while it is OK. -/
abbrev SlotRelated (r : Slot) : Prop :=
  (r.refusal.isSome ↔ r.outcome = some .refused) ∧ (r.response.isSome ↔ r.outcome = some .ok)

/-- Every slot record keeps the relation of R1. -/
abbrev SlotsRelated (s : State) : Prop := ∀ i : SlotId, SlotRelated s.slots[i]

/-- One station entry's score (R89): at most 247, and LOST at 240 or more. -/
abbrev StationScored (e : Station) : Prop := e.score ≤ 247 ∧ (240 ≤ e.score → e.state = .lost)

/-- Every station entry keeps the bounds of R89. -/
abbrev StationsScored (s : State) : Prop := ∀ st : StationId, StationScored s.stations[st]

/-- The dispatcher, the exchange record and the reservation (R28, R35, R49): the record is present exactly
while BUSY; 3 entries are reserved then unless used, none otherwise; a mode that carries traffic never
finds the dispatcher STOPPED, and in any other mode it is BUSY or STOPPED. -/
abbrev DispatcherLawful (s : State) : Prop :=
  (s.exchange.isSome ↔ s.dispatcher = .busy) ∧
    s.reserved = (if s.dispatcher = .busy then 3 else 0) ∧
    (s.mode.traffic → s.dispatcher ≠ .stopped) ∧
    (s.mode.traffic = false → s.dispatcher = .busy ∨ s.dispatcher = .stopped)

/-- LDE and LTX (R54): a frame stands on LTX exactly while LDE is asserted, which is in SENDING only and
never in LOOPBACK. -/
abbrev LinkDriven (s : State) : Prop :=
  (s.linkFrame.isSome ↔ s.lde = true) ∧
    (s.lde → s.mode ≠ .loopback ∧ s.exchange.any (fun x => decide (x.phase = .sending)))

/-- The control port (R171, R172): at most 2 frames are held; the marker's count is 1..255; with the
transmitter idle nothing waits. -/
abbrev PortLawful (s : State) : Prop :=
  s.holding.length ≤ 2 ∧ s.overrun.all (fun m => decide (1 ≤ m.count) && decide (m.count ≤ 255)) ∧
    (s.reply = none → s.holding = [] ∧ s.overrun = none) ∧
    (s.mode = .dormant → s.holding.length ≤ 1 ∧ s.overrun = none)

/-- One line level's record (R97): the service list is in ascending order, non-empty exactly in SERVING;
the roll attempt is set only in ROLL and the read failures only in SERVING. -/
abbrev LineLawful (r : Line) : Prop :=
  r.serviceList.Pairwise (fun a b => a < b) ∧ (r.serviceList ≠ [] ↔ r.state = .serving) ∧
    (r.rollAttempt → r.state = .roll) ∧ (r.readFailures → r.state = .serving)

/-- Every level's record keeps R97, and no list holds a VACANT or LOST station. -/
abbrev LinesLawful (s : State) : Prop :=
  ∀ l : LineId, LineLawful s.lines[l] ∧
    ∀ st ∈ s.lines[l].serviceList, s.stations[st].state ≠ .vacant ∧ s.stations[st].state ≠ .lost

/-- The ready queue and the ACTIVE slot (R3, R4): the queue holds exactly the READY slots, none twice; a
slot is ACTIVE exactly while the exchange record names it. -/
abbrev QueueLawful (s : State) : Prop :=
  s.ready.Nodup ∧ ∀ i : SlotId, (i ∈ s.ready ↔ s.slots[i].state = .ready) ∧
    (s.slots[i].state = .active ↔ s.exchange.any (fun x => decide (x.slot = some i)))

/-- The slots armed for a station. -/
def armedFor (s : State) (st : StationId) : List SlotId :=
  allSlots.filter (fun i =>
    s.slots[i].state.armed && decide (s.slots[i].station = stationAddress st))

/-- The armed counts and the law of armed slots (R78, R3): a station's count is the number of its armed
slots, and a VACANT or LOST station has none. -/
abbrev ArmedLawful (s : State) : Prop :=
  ∀ st : StationId, s.stations[st].armed = (armedFor s st).length ∧
    ((s.stations[st].state = .vacant ∨ s.stations[st].state = .lost) → armedFor s st = [])

/-- The report queue (R160, R161): the exchange-class reports with the reservation never number more than
28, the MODE reports never more than 4. -/
abbrev ReportsBounded (s : State) : Prop :=
  s.exchangeOccupied + s.reserved ≤ 28 ∧ s.systemOccupied ≤ 4

/-- The mode controller's items (R136, R142, R147): a wake source only in DORMANT, the host-silence timer
only in RUN, and in DORMANT no report queued. -/
abbrev ModeLawful (s : State) : Prop :=
  (s.wake.isSome → s.mode = .dormant) ∧ (s.silence.isSome → s.mode = .run) ∧
    (s.mode = .dormant → s.reports = [] ∧ s.dispatcher = .stopped)

/-- The filtered lines (R95, R96): from the pin filters outside LOOPBACK, from the loop sets in it, where
they are empty everywhere else; HALTED freezes them as they stand. -/
abbrev LinesFiltered (s : State) : Prop :=
  ∀ l : LineId,
    (s.mode = .loopback → (s.lines[l].filtered = true ↔ s.lines[l].loopSet ≠ 0)) ∧
    (s.mode ≠ .loopback → s.mode ≠ .halted →
      s.lines[l].filtered = s.lines[l].pinFilter ∧ s.lines[l].loopSet = 0)

/-! ## Requests at the control port -/

/-- The control port takes a request frame at once: the receiver takes characters, no reply is leaving,
and nothing is held (R169, R171). -/
abbrev PortFree (s : State) : Prop :=
  s.takesFrames = true ∧ s.reply = none ∧ s.holding = [] ∧ s.overrun = none

/-- The frame of a request, with a good CHECK. -/
def requestFrame (tag : Byte) (r : Request) : Frame := goodFrame (Request.kind r) tag (Request.body r)

/-- The state a request's owner finds: the frame at the head of the holding, the receiver in SEARCH, the
host-silence timer started again in RUN (R171, R142). Every other field is as it was. -/
def arrived (f : Frame) (s : State) : State :=
  { s with
    intake := .search
    holding := [f]
    silence := if s.mode = .run then s.settings.silenceStart else s.silence }

/-- The state with the reply to a frame leaving TXD (R171). -/
def replied (f : Frame) (status : Status) (body : List Byte) (t : State) : State :=
  { t with reply := some { kind := f.kind ||| 0x80, tag := f.tag, status := status, body := body } }

/-- The command `c`, the arrival of request `r` with a tag, completes: `exec` answers the next state in
which the owner has made its change to what it found, and the reply carries the status and the body. Every
field that `change` leaves is as it was, but for the frame held, the reply and the host-silence timer. -/
abbrev Answered (c : Instr) (tag : Byte) (r : Request) (s : State) (status : Status)
    (body : List Byte) (change : State → State) : Prop :=
  exec c s = .next (replied (requestFrame tag r) status body (change (arrived (requestFrame tag r) s)))

/-- The state after a command; the state itself where the command gives none, as no command does. -/
def afterCommand (c : Instr) (s : State) : State :=
  match exec c s with
  | .next t => t
  | .fault _ => s
  | .refused _ => s

/-- The command that is the arrival of a request. -/
def commandOf (tag : Byte) : Request → Instr
  | .loadSlot n st c p r t o payload => .loadSlot tag n st c p r t o payload
  | .releaseSlot n => .releaseSlot tag n
  | .readSlot n => .readSlot tag n
  | .start set => .start tag set
  | .abortSlot n => .abortSlot tag n
  | .abortAll => .abortAll tag
  | .stepEnable => .stepEnable tag
  | .stepDisable => .stepDisable tag
  | .stepAdvance => .stepAdvance tag
  | .enroll st mask => .enroll tag st mask
  | .withdraw st => .withdraw tag st
  | .restore st => .restore tag st
  | .setCauseMask st mask => .setCauseMask tag st mask
  | .readStation st => .readStation tag st
  | .setThreshold t => .setThreshold tag t
  | .unmask l => .unmask tag l
  | .raise l => .raise tag l
  | .setLoopAttention l set c => .setLoopAttention tag l set c
  | .readAttention => .readAttention tag
  | .setTimer n src reload soft flags => .setTimer tag n src reload soft flags
  | .readTimers c => .readTimers tag c
  | .setMode t => .setMode tag t
  | .reset => .reset tag
  | .clearCause => .clearCause tag
  | .fetch n => .fetch tag n
  | .readFault => .readFault tag
  | .clearFault => .clearFault (.alone tag)
  | .writeSettings mask values => .writeSettings tag mask values
  | .readSettings => .readSettings tag
  | .identify => .identify tag
  | .status => .status tag

/-- The bytes of a request frame on RXD, from its SYNC to its CHECK (TABLE 11-1). -/
def requestBytes (tag : Byte) (r : Request) : List Byte :=
  0xA5 :: byte ((Request.body r).length + 2) :: Request.kind r :: tag ::
    (Request.body r ++ [frameCheck (Request.kind r) tag (Request.body r)])

/-- Bytes received one after the other, each as its character (R169). -/
def receiveAll : List Byte → State → Host.Outcome State Fault Refusal
  | [], s => .next s
  | b :: rest, s =>
    match exec (.requestByteReceived (sampled b)) s with
    | .next t => receiveAll rest t
    | .fault r => .fault r
    | .refused r => .refused r

/-! ## Numbers and check codes as they are carried -/

/-- A quantity of two bytes, least significant first (R178). -/
def low2 (n : Nat) : List Byte := [byte n, byte (n / 256)]

/-- A set of three bytes, least significant first (R178). -/
def low3 (n : Nat) : List Byte := [byte n, byte (n / 256), byte (n / 65536)]

/-- A quantity or set of four bytes, least significant first (R178). -/
def low4 (n : Nat) : List Byte := [byte n, byte (n / 256), byte (n / 65536), byte (n / 16777216)]

/-- The bits of bytes in the order in which a CRC takes them: each byte most significant bit first. -/
def bitsOf (bytes : List Byte) : List Bool :=
  bytes.flatMap (fun b => (List.finRange 8).map (fun k => b.getMsbD k.val))

/-- A CRC taken bit by bit: a bit that differs from the top of the register brings in the polynomial. -/
def crcOf {w : Nat} (poly start : BitVec w) (bytes : List Byte) : BitVec w :=
  (bitsOf bytes).foldl (fun r b => if r.msb = b then r <<< 1 else (r <<< 1) ^^^ poly) start

/-- The CHECK of R170: x^8+x^2+x+1, from 0. -/
def portCrc (bytes : List Byte) : Byte := crcOf 0x07 0 bytes

/-- The CRC-16 of R59: x^16+x^12+x^5+1, from all ones. -/
def linkCrc (bytes : List Byte) : Half := crcOf 0x1021 0xFFFF bytes

/-- The two CRC bytes of a frame on the pair, most significant first (R59). -/
def crcBytes (bytes : List Byte) : List Byte :=
  [byte ((linkCrc bytes).toNat / 256), byte (linkCrc bytes).toNat]

/-! ## Armed counts -/

/-- The station entries with the armed count of an address's station changed; broadcast has none (R3,
R78). -/
def recount (v : Vector Station 31) (a : Address) (f : Nat → Nat) : Vector Station 31 :=
  match Address.station? a with
  | none => v
  | some st => v.set st { v[st] with armed := f v[st].armed, codeAgrees := true }

/-! ## Reply frames of stations -/

/-- A station's reply frame (TABLE 11-7): address echo and status, toggle echo and length, payload, CRC. -/
def replyFrame (address : Address) (status : Fin 4) (toggle : Bool) (payload : List Byte) : List Byte :=
  let covered := (byte address.val ||| (byte status.val <<< 5)) ::
    (flagBit toggle 7 ||| byte payload.length) :: payload
  0xC3 :: (covered ++ crcBytes covered)

/-! ## All the relations together -/

/-- What an exchange record must say of its kind (TABLE 2-4, R35): the slot for SLOT, whose station and
command it carries; the level for ROLL and CAUSE, in state ROLL for ROLL (R101); a station 0..30 for CAUSE
and PROBE. -/
abbrev ExchangeShaped (s : State) : Prop :=
  ∀ x, s.exchange = some x →
    (x.kind = .slot → x.level = none ∧ ∃ i : SlotId, x.slot = some i ∧
      x.station = s.slots[i].station ∧ x.command = s.slots[i].command.link) ∧
    (x.kind ≠ .slot → x.slot = none) ∧
    (x.kind = .roll → x.station = 31 ∧ x.command = .roll ∧
      ∃ l : LineId, x.level = some l ∧ s.lines[l].state = .roll) ∧
    (x.kind = .cause → x.station ≠ 31 ∧ x.level.isSome ∧ x.command = .cause) ∧
    (x.kind = .probe → x.station ≠ 31 ∧ x.level = none ∧ x.command = .probe)

/-- Before start-up has reached its step 6 (R158, R136, R168): CONFIGURATION on the low-speed oscillator
with nothing on TXD and no unretained fault; a reset is held exactly while a reset condition remains. -/
abbrev StartUpLawful (s : State) : Prop :=
  (s.startUp ≠ .done → s.mode = .configuration ∧ s.dispatcher = .stopped ∧ s.clockSource = .lowSpeed ∧
    s.reply = none ∧ s.fault.all FaultRecord.retained) ∧
  (s.startUp = .inReset ↔ ¬ (s.supply = .good ∧ s.pinResetHeld = false))

/-- The clock state (TABLE 8-1, R154): the source is the crystal only while it is STABLE, and the monitor
is RUNNING exactly while the source is the crystal. -/
abbrev ClockLawful (s : State) : Prop :=
  (s.clockSource = .crystal → s.crystal = .stable) ∧
    (s.monitorRunning = true ↔ s.clockSource = .crystal)

/-- A requested mode waits for an exchange (R136, R140); HALTED finds none on the link (R46); DORMANT holds
no unretained fault (R145); the MODE reports leave the room that R141 counts. -/
abbrev TransitionsLawful (s : State) : Prop :=
  (s.requested.isSome → s.dispatcher = .busy ∧ s.systemOccupied ≤ 2) ∧
    (s.mode = .halted → s.dispatcher = .stopped) ∧
    (s.mode = .dormant → s.fault.all FaultRecord.retained) ∧
    (s.mode.traffic → s.systemOccupied ≤ 3)

/-- Every relation of this file that a run keeps. -/
abbrev Lawful (s : State) : Prop :=
  HaltedHoldsSecond s ∧ TimersBounded s ∧ SlotsRelated s ∧ StationsScored s ∧ DispatcherLawful s ∧
    LinkDriven s ∧ PortLawful s ∧ LinesLawful s ∧ QueueLawful s ∧ ArmedLawful s ∧ ReportsBounded s ∧
    ModeLawful s ∧ LinesFiltered s ∧ ExchangeShaped s ∧ StartUpLawful s ∧ ClockLawful s ∧
    TransitionsLawful s

end Sys2Proof.Safety
end

