-- ==== Sys2Proof/Certificates/Slice0/Obligations.lean ====
section
/-! DEFINITION. The statements about the part, one `Obligations.<Name> : Prop` each. Next states are given
as record updates, so every field that a statement does not name is unchanged. -/

open Sys2Proof Sys2Proof.Machine Sys2Proof.Safety

/-! ## The queue of commands and the frames on RXD -/

/-- A step runs the command at the front of the queue on the queue's rest; with an empty queue the state
stays as it is (the model's choice, log 1). -/
def Obligations.StepRunsTheFrontCommand : Prop :=
  (∀ (c : Instr) (rest : List Instr) (s : State),
    step { s with pending := c :: rest } = exec c { s with pending := rest }) ∧
  ∀ s : State, s.pending = [] → step s = .next s

/-- The KIND and the body of every request, as TABLE 10-2 and TABLE 11-4 give them, least significant byte
first (R178). The body of every request that a frame can carry is read back as that request, with every
operand, and no other body is read: one of a length that its kind does not admit is none (R179). -/
def Obligations.RequestBodiesReadBack : Prop :=
  (∀ r : Request, (Request.kind r, Request.body r) = match r with
    | .loadSlot slot station command priority retryLimit trigger options payload =>
      (1, slot :: station :: command :: priority :: retryLimit :: trigger :: options :: payload)
    | .releaseSlot slot => (2, [slot])
    | .readSlot slot => (3, [slot])
    | .start slots => (4, low3 slots.toNat)
    | .abortSlot slot => (5, [slot])
    | .abortAll => (6, [])
    | .stepEnable => (16, [])
    | .stepDisable => (17, [])
    | .stepAdvance => (18, [])
    | .enroll station mask => (32, station :: low2 mask.toNat)
    | .withdraw station => (33, [station])
    | .restore station => (34, [station])
    | .setCauseMask station mask => (35, station :: low2 mask.toNat)
    | .readStation station => (36, [station])
    | .setThreshold threshold => (48, [threshold])
    | .unmask level => (49, [level])
    | .raise level => (50, [level])
    | .setLoopAttention level stations cause => (51, level :: (low4 stations.toNat ++ [cause]))
    | .readAttention => (52, [])
    | .setTimer timer source reload softLevel flags =>
      (64, timer :: source :: (low2 reload.toNat ++ [softLevel, flags]))
    | .readTimers clearTallies => (65, [clearTallies])
    | .setMode target => (80, [target])
    | .reset => (96, [])
    | .clearCause => (97, [])
    | .fetch count => (112, [count])
    | .readFault => (113, [])
    | .clearFault => (114, [])
    | .writeSettings mask values => (120, mask :: values)
    | .readSettings => (121, [])
    | .identify => (122, [])
    | .status => (123, [])) ∧
  (∀ (kind : Byte) (body : List Byte) (r : Request), readBody kind body = some r →
    kind = Request.kind r ∧ body = Request.body r ∧ Request.wellFormed r = true) ∧
  ∀ r : Request, Request.wellFormed r = true →
    isRequestKind (Request.kind r) = true ∧ readBody (Request.kind r) (Request.body r) = some r

/-- The bytes of a request frame, received one after the other by a receiver in SEARCH, come to the same
state as the request's own command. That the request's row is the arrival of its whole frame is the
model's reading (log 4). -/
def Obligations.BytesMakeTheRequestsFrame : Prop :=
  ∀ (tag : Byte) (r : Request) (s : State),
    Request.wellFormed r = true → s.takesFrames = true → s.intake = .search →
      receiveAll (requestBytes tag r) s = exec (commandOf tag r) s

/-- The characters of RXD and of the pair (R56, R169), when the receiver takes them for frames (R169), and
its three intake states (R170). A character carries bit k of its byte in its k-th data bit, 1 at the idle
level (the model's presumption, log 34); one whose stop bit samples at the active level is discarded with
its partial frame. -/
def Obligations.ReceiverFollowsItsIntakeStates : Prop :=
  (∀ (c : Character) (k : Fin 8),
    (characterByte c).getLsbD k.val = decide (c.data[k] = .idle)) ∧
  (∀ c : Character, c.stop = .idle ↔ c = sampled (characterByte c)) ∧
  (∀ s : State, s.takesFrames = true ↔
    s.startUp = .done ∧ s.clockSource = .crystal ∧ s.mode ≠ .dormant) ∧
  ∀ (c : Character) (s : State),
    let b := characterByte c
    (s.takesFrames = false → exec (.requestByteReceived c) s = .next s) ∧
    (s.takesFrames = true → c.stop = .active →
      exec (.requestByteReceived c) s = .next { s with intake := .search }) ∧
    (s.takesFrames = true → c.stop = .idle → s.intake = .search →
      exec (.requestByteReceived c) s =
        .next { s with intake := if b = 0xA5 then .length else .search }) ∧
    (s.takesFrames = true → c.stop = .idle → s.intake = .length →
      exec (.requestByteReceived c) s = .next { s with
        intake := if 2 ≤ b.toNat ∧ b.toNat ≤ 66 then .body b.toNat [] else .search }) ∧
    (∀ (len : Nat) (collected : List Byte), s.takesFrames = true → c.stop = .idle →
      s.intake = .body len collected → collected.length < len →
      exec (.requestByteReceived c) s = .next { s with intake := .body len (collected ++ [b]) }) ∧
    (s.intake = .length → (b.toNat < 2 ∨ 66 < b.toNat) →
      exec (.lenOutOfRange c) s = .next { s with intake := .search }) ∧
    exec .interByteTimeout s = .next { s with intake := .search } ∧
    exec .controlPortFramingError s = .next { s with intake := .search }

/-- A frame that completes is taken at once with the transmitter idle, held behind a reply while there is
room, and otherwise discarded into the overrun marker (R171, R172). A CHECK character with a framing error
completes no frame: the partial frame is discarded (R170). -/
def Obligations.CompletedFrameIsTakenHeldOrCounted : Prop :=
  ∀ (kind tag check : Byte) (body : List Byte) (s : State),
    s.takesFrames = true → s.intake = .body (body.length + 2) (kind :: tag :: body) →
    let f : Frame := { kind := kind, tag := tag, body := body, check := check }
    (∀ c : Character, c.stop = .active →
      exec (.requestFrameComplete c) s = .next { s with intake := .search }) ∧
    (s.overrun = none → s.holding = [] → s.reply = none →
      exec (.requestFrameComplete (sampled check)) s =
        .next { (judge f { s with intake := .search, holding := [f] }).1 with
          reply := some (judge f { s with intake := .search, holding := [f] }).2 }) ∧
    (s.overrun = none → s.holding.length < 2 → s.reply ≠ none →
      exec (.requestFrameComplete (sampled check)) s =
        .next { s with intake := .search, holding := s.holding ++ [f] }) ∧
    (s.overrun = none → 2 ≤ s.holding.length →
      exec (.requestFrameComplete (sampled check)) s =
        .next { s with intake := .search, overrun := some { tag := tag, count := 1 } }) ∧
    (∀ m : Overrun, s.overrun = some m →
      exec (.requestFrameComplete (sampled check)) s =
        .next { s with
          intake := .search
          overrun := some { tag := m.tag, count := min 255 (m.count + 1) } })

/-- The four tests of R173, in order, and what each failure answers: the CHECK is the CRC-8 over LEN, KIND,
TAG and BODY (R170), and five requests are taken in HALTED. Every frame with a good CHECK starts the
host-silence timer again in RUN (R142). -/
def Obligations.FramesAreJudgedInOrder : Prop :=
  (∀ (kind tag : Byte) (body : List Byte),
    frameCheck kind tag body = portCrc (byte (body.length + 2) :: kind :: tag :: body)) ∧
  (∀ r : Request, Request.takenInHalted r = true ↔
    r = .identify ∨ r = .status ∨ (∃ n, r = .fetch n) ∨ r = .readFault ∨ r = .reset) ∧
  ∀ (f : Frame) (s : State),
    let started : Option Nat :=
      if s.settings.hostTimeout = 0 then none else some (10 * s.settings.hostTimeout)
    let alive : State := { s with silence := if s.mode = .run then started else s.silence }
    let error (st : Status) : Reply := { kind := 255, tag := f.tag, status := st, body := [] }
    let turned (st : Status) : Reply := { kind := f.kind ||| 0x80, tag := f.tag, status := st, body := [] }
    (f.check ≠ frameCheck f.kind f.tag f.body → judge f s = (s, error .badCheck)) ∧
    (f.check = frameCheck f.kind f.tag f.body →
      (isRequestKind f.kind = false → judge f s = (alive, error .unknownKind)) ∧
      (isRequestKind f.kind = true →
        (readBody f.kind f.body = none → judge f s = (alive, turned .badLength)) ∧
        ∀ r : Request, readBody f.kind f.body = some r →
          (s.mode = .halted → Request.takenInHalted r = false →
            judge f s = (alive, turned .halted)) ∧
          ((s.mode ≠ .halted ∨ Request.takenInHalted r = true) →
            judge f s = ((serve r alive).1,
              { kind := f.kind ||| 0x80, tag := f.tag, status := (serve r alive).2.1,
                body := (serve r alive).2.2 }))))

/-- A frame of a kind outside TABLE 10-2, which no request has, is answered by an ERROR reply (R173). -/
def Obligations.UnknownKindGetsAnErrorReply : Prop :=
  (∀ kind : Byte,
    ((∀ r : Request, Request.kind r ≠ kind) ↔ kind.toNat ∉
      [1, 2, 3, 4, 5, 6, 16, 17, 18, 32, 33, 34, 35, 36, 48, 49, 50, 51, 52, 64, 65, 80, 96, 97, 112,
        113, 114, 120, 121, 122, 123]) ∧
    (isRequestKind kind = false ↔ ∀ r : Request, Request.kind r ≠ kind)) ∧
  ∀ (tag kind : Byte) (body : List Byte) (s : State),
    PortFree s → (∀ r : Request, Request.kind r ≠ kind) →
      exec (.unknownKind tag kind body) s = .next { arrived (goodFrame kind tag body) s with
        reply := some { kind := 255, tag := tag, status := .unknownKind, body := [] } }

/-- In HALTED every request but IDENTIFY, STATUS, FETCH, READ FAULT and RESET is refused with HALTED
(R173), and its owner's state is left as it stood. -/
def Obligations.HaltedRefusesAllButFiveRequests : Prop :=
  ∀ (tag : Byte) (r : Request) (s : State),
    PortFree s → s.mode = .halted → Request.wellFormed r = true →
    r ≠ .identify → r ≠ .status → (∀ n, r ≠ .fetch n) → r ≠ .readFault → r ≠ .reset →
      Answered (commandOf tag r) tag r s .halted [] (fun t => t)

/-- The end of a reply outside DORMANT that is not RESET's OK reply (R171, R172): its frame leaves the
holding, and the next head is taken, or the OVERRUN reply is sent, or TXD is idle; an OVERRUN reply gives
up the marker. That the reply's count is fixed as the reply begins is the model's choice (log 33). -/
def Obligations.ReplyEndTakesTheNextFrame : Prop :=
  (∀ r : Reply, r.isReset = true ↔ r.kind = 0xE0 ∧ r.status = .ok) ∧
  ∀ (s : State) (r : Reply), s.reply = some r → r.isReset = false → s.mode ≠ .dormant →
    (r.status ≠ .overrun → s.holding.tail = [] → s.overrun = none →
      exec .replyEnd s = .next { s with reply := none, holding := [] }) ∧
    (∀ m : Overrun, r.status ≠ .overrun → s.holding.tail = [] → s.overrun = some m →
      exec .replyEnd s = .next { s with
        holding := []
        reply := some { kind := 255, tag := m.tag, status := .overrun, body := [byte m.count] } }) ∧
    (∀ (f : Frame) (rest : List Frame), r.status ≠ .overrun → s.holding.tail = f :: rest →
      exec .replyEnd s =
        .next { (judge f { s with reply := none, holding := f :: rest }).1 with
          reply := some (judge f { s with reply := none, holding := f :: rest }).2 }) ∧
    (r.status = .overrun → s.holding = [] →
      exec .replyEnd s = .next { s with reply := none, overrun := none })

/-! ## Slots -/

/-- LOAD SLOT (R7, R8). -/
def Obligations.LoadSlotStoresItsProgramming : Prop :=
  ∀ (tag : Byte) (s : State), PortFree s → s.mode ≠ .halted →
    (∀ (n st c p r t o : Byte) (payload : List Byte), payload.length ≤ 57 →
      (24 ≤ n.toNat ∨ 32 ≤ st.toNat ∨ c.toNat = 0 ∨ 4 < c.toNat ∨ (c = 4 ∧ st ≠ 31) ∨
        (c = 1 ∧ st = 31) ∨ 16 < payload.length ∨ 4 ≤ p.toNat ∨ 8 ≤ r.toNat ∨
        (8 ≤ t.toNat ∧ t ≠ 0xFF) ∨ 4 ≤ o.toNat ∨ (o.getLsbD 0 = true ∧ t = 0xFF)) →
      Answered (.loadSlot tag n st c p r t o payload) tag (.loadSlot n st c p r t o payload) s
        .badValue [] (fun u => u)) ∧
    ∀ (i : SlotId) (a : Address) (c : SlotCommand) (payload : List Byte) (p : Fin 4) (r : Fin 8)
      (t : Option TimerId) (repeating failuresOnly : Bool),
      payload.length ≤ 16 → (c = .sync → a = 31) → (c = .read → a ≠ 31) →
      (repeating = true → t ≠ none) →
      let request : Request := .loadSlot (byte i.val) (byte a.val) c.code (byte p.val) (byte r.val)
        (t.elim 0xFF (fun n => byte n.val)) (flagBit repeating 0 ||| flagBit failuresOnly 1) payload
      (s.slots[i].state.armed = false →
        Answered (commandOf tag request) tag request s .ok [] (fun u => { u with
          slots := u.slots.set i
            { state := .loaded, station := a, command := c, payload := payload, priority := p
              retryLimit := r, trigger := t, repeating := repeating, failuresOnly := failuresOnly
              attempts := 0, outcome := none, refusal := none, response := none, late := 0, run := 0
              abortPending := false, abortTooLate := false, codeAgrees := true } })) ∧
      (s.slots[i].state.armed = true →
        Answered (commandOf tag request) tag request s .slotArmed [] (fun u => u))

/-- RELEASE SLOT (R9), with the reset values of R27. -/
def Obligations.ReleaseSlotReturnsTheSlotToEmpty : Prop :=
  ∀ (tag : Byte) (s : State), PortFree s → s.mode ≠ .halted →
    (∀ n : Byte, 24 ≤ n.toNat →
      Answered (.releaseSlot tag n) tag (.releaseSlot n) s .badValue [] (fun t => t)) ∧
    ∀ i : SlotId,
      (s.slots[i].state.armed = false →
        Answered (.releaseSlot tag (byte i.val)) tag (.releaseSlot (byte i.val)) s .ok []
          (fun t => { t with
            slots := t.slots.set i
              { state := .empty, station := 0, command := .write, payload := [], priority := 0
                retryLimit := 0, trigger := none, repeating := false, failuresOnly := false
                attempts := 0, outcome := none, refusal := none, response := none, late := 0, run := 0
                abortPending := false, abortTooLate := false, codeAgrees := true } })) ∧
      (s.slots[i].state.armed = true →
        Answered (.releaseSlot tag (byte i.val)) tag (.releaseSlot (byte i.val)) s .slotArmed []
          (fun t => t))

/-- The requests that only read leave the state as it stands and return the records asked for (R10, R83,
R116, R130, R167, R175, R176, R177). The bytes of these bodies are the next statement's. -/
def Obligations.ReadRequestsChangeNothing : Prop :=
  ∀ (tag : Byte) (s : State), PortFree s →
    (s.mode ≠ .halted →
      (∀ i : SlotId, Answered (.readSlot tag (byte i.val)) tag (.readSlot (byte i.val)) s .ok
        (s.slotBody i) (fun t => t)) ∧
      (∀ n : Byte, 24 ≤ n.toNat →
        Answered (.readSlot tag n) tag (.readSlot n) s .badValue [] (fun t => t)) ∧
      (∀ st : StationId, Answered (.readStation tag (byte st.val)) tag (.readStation (byte st.val)) s
        .ok (stationBody s.stations[st]) (fun t => t)) ∧
      (∀ n : Byte, 31 ≤ n.toNat →
        Answered (.readStation tag n) tag (.readStation n) s .badValue [] (fun t => t)) ∧
      Answered (.readAttention tag) tag .readAttention s .ok s.attentionBody (fun t => t) ∧
      Answered (.readTimers tag 0) tag (.readTimers 0) s .ok s.timersBody (fun t => t) ∧
      Answered (.readSettings tag) tag .readSettings s .ok (settingsBody s.settings) (fun t => t)) ∧
    Answered (.readFault tag) tag .readFault s .ok (faultBody s.fault) (fun t => t) ∧
    Answered (.identify tag) tag .identify s .ok
      [0x34, 0x0C, Config.revision, 31, 24, 8, 32, s.lastCause.code,
        flagBit s.supplyFlag 0 ||| flagBit s.fault.isSome 1 |||
          flagBit (s.fault.any FaultRecord.retained) 2] (fun t => t) ∧
    Answered (.status tag) tag .status s .ok
      [s.mode.code, optByte (s.requested.map Mode.code), s.dispatcher.code,
        flagBit s.stepEnable 0 ||| flagBit s.fault.isSome 1, byte s.exchangeOccupied,
        byte s.systemOccupied,
        byte (allSlots.filter (fun i => s.slots[i].state.armed)).length, s.lines[0].state.code,
        s.lines[1].state.code, s.lines[2].state.code, s.lines[3].state.code,
        flagBit (s.soft[0] != 0) 1 ||| flagBit (s.soft[1] != 0) 2 ||| flagBit (s.soft[2] != 0) 3,
        byte s.threshold.val] (fun t => t)

/-- What leaves TXD, byte by byte: bytes, flags and optional fields (R178), the reply frame (TABLE 11-1) with
its CHECK (R170), the codes of TABLES 11-2 and 11-3, the reply bodies (R180, TABLE 11-5; STATUS and
IDENTIFY are the statement before) and the report records (R181, TABLE 11-6), with the lengths stated for
them. The type code and revision of a STATION record that has none are any two bytes (log 18). -/
def Obligations.RepliesAndRecordsHaveTheirBytes : Prop :=
  (∀ n : Nat, (byte n).toNat = n % 256) ∧
  (∀ n : Fin 8, flagBit true n.val = byte (2 ^ n.val) ∧ flagBit false n.val = 0) ∧
  (optByte none = 0xFF ∧ ∀ b : Byte, optByte (some b) = b) ∧
  (∀ bytes : List Byte, crc8 bytes = portCrc bytes) ∧
  (∀ r : Reply, let covered := byte (r.body.length + 3) :: r.kind :: r.tag :: r.status.code :: r.body
    r.bytes = 0x5A :: (covered ++ [portCrc covered]) ∧ r.levels = lineLevels r.bytes) ∧
  ([Status.ok, .badCheck, .unknownKind, .badLength, .badValue, .mode, .modePending, .reportsFull,
      .pending, .halted, .overrun].map Status.code = [0, 1, 2, 3, 4, 5, 6, 7, 8, 9, 10] ∧
    [Status.slotArmed, .notLoaded, .notArmed, .inFlight, .aborted].map Status.code =
      [0x10, 0x11, 0x12, 0x13, 0x14] ∧
    [Status.stationVacant, .stationLost, .stationBusy, .enrolled, .notLost].map Status.code =
      [0x20, 0x21, 0x22, 0x23, 0x24] ∧
    [Status.notStuck, .notHeld].map Status.code = [0x30, 0x31]) ∧
  ([Mode.configuration, .run, .hold, .loopback, .dormant, .halted].map Mode.code =
      [0, 1, 2, 3, 4, 5] ∧
    [DispatcherState.idle, .busy, .held, .stopped].map DispatcherState.code = [0, 1, 2, 3] ∧
    [SlotState.empty, .loaded, .waiting, .ready, .active, .done, .failed, .aborted].map
      SlotState.code = [0, 1, 2, 3, 4, 5, 6, 7] ∧
    [SlotOutcome.ok, .refused, .busy, .noReply, .badReply, .aborted, .stationLost, .internal].map
      SlotOutcome.code = [0, 1, 2, 3, 4, 5, 6, 7] ∧
    (∀ (payload : List Byte) (reason : Byte) (v : Verdict) (p m : StationSet),
      [Outcome.ack payload, .nak reason, .busy, .silent, .garbled, .echoMismatch, .broadcastDone,
        .rollResult v p m, .blocked, .abandoned].map Outcome.code = [0, 1, 2, 3, 4, 5, 6, 7, 8, 9]) ∧
    [Verdict.consistent, .mismatch, .garbled].map Verdict.code = [0, 1, 2] ∧
    [ExchangeKind.slot, .roll, .cause, .probe].map ExchangeKind.code = [0, 1, 2, 3] ∧
    [SlotCommand.read, .write, .control, .sync].map SlotCommand.code = [1, 2, 3, 4] ∧
    [StationState.vacant, .probing, .good, .suspect, .silenced, .lost].map StationState.code =
      [0, 1, 2, 3, 4, 5] ∧
    [StationReason.score, .probe, .check].map StationReason.code = [0, 1, 2] ∧
    [LineState.quiet, .pending, .roll, .serving, .stuck].map LineState.code = [0, 1, 2, 3, 4] ∧
    [ModeCause.request, .hostSilent, .wake, .clock, .link].map ModeCause.code = [0, 1, 2, 3, 4] ∧
    WakeSource.host.code = 0 ∧
    (∀ l : LineId, (WakeSource.attention l).code = byte (0x10 + (4 + l.val))) ∧
    (∀ n : TimerId, (WakeSource.timer n).code = byte (0x20 + n.val)) ∧
    [FaultKind.crystalLost, .linkStuck, .tableCheck].map FaultKind.code = [0, 1, 2] ∧
    [ResetCause.power, .pin, .command].map ResetCause.code = [0, 1, 2] ∧
    [TimerSource.base10us, .base100us, .base1ms, .base10ms, .cascade].map TimerSource.code =
      [0, 1, 2, 3, 4] ∧
    [LinkRate.kbit250, .kbit500, .mbit1, .mbit2].map LinkRate.code = [0, 1, 2, 3] ∧
    [FilterTime.us0, .us4, .us16, .us64].map FilterTime.code = [0, 1, 2, 3]) ∧
  (∀ (s : State) (i : SlotId),
    let r := s.slots[i]
    s.slotBody i =
      [byte i.val, byte r.station.val, r.command.code, byte r.priority.val, byte r.retryLimit.val,
        r.trigger.elim 0xFF (fun n => byte n.val), flagBit r.repeating 0 ||| flagBit r.failuresOnly 1,
        r.state.code, byte r.attempts, optByte (r.outcome.map SlotOutcome.code), r.refusal.getD 0,
        byte r.late] ++ low2 r.run.toNat ++
      [flagBit r.abortPending 0 ||| flagBit r.abortTooLate 1 |||
          flagBit (decide (r.state = .ready) && s.held i) 2,
        if r.state = .ready then byte (s.ready.idxOf i) else 0xFF, byte r.payload.length] ++
      r.payload ++ byte (r.response.getD []).length :: r.response.getD []) ∧
  (∀ e : Station, stationBody e =
    [e.state.code, optByte (e.identity.map Prod.fst), optByte (e.identity.map Prod.snd), byte e.score,
      flagBit e.toggle 0] ++ low2 e.causeMask.toNat ++
    [optByte (e.lastCause.map (fun c => byte c.val)), byte e.armed, byte e.probeFailures,
      flagBit e.identity.isSome 0]) ∧
  (∀ s : State,
    let level (l : LineId) : List Byte :=
      let r := s.lines[l]
      [r.state.code, flagBit r.filtered 0, flagBit r.rollAttempt 0, flagBit r.readFailures 0] ++
      low4 r.lastPresence.toNat ++
      [flagBit r.unionUsed 0 ||| flagBit (s.settings.wakeLevels.getLsbD l.val) 1,
        byte r.serviceList.length] ++
      r.serviceList.map (fun st => byte st.val) ++ low4 r.loopSet.toNat ++ [byte r.loopCause.val]
    s.attentionBody = byte s.threshold.val :: (level 0 ++ level 1 ++ level 2 ++ level 3 ++
      low2 s.soft[0].toNat ++ low2 s.soft[1].toNat ++ low2 s.soft[2].toNat)) ∧
  (∀ s : State, s.timersBody = allTimers.flatMap (fun n =>
    let r := s.timers[n]
    [r.source.code] ++ low2 r.reload ++ [byte r.softLevel.val,
      flagBit r.enabled 0 ||| flagBit r.oneShot 1 ||| flagBit r.wakeEnable 2] ++
    low2 r.count ++ low2 (r.reload - r.count) ++ [byte r.tally, 0, 0])) ∧
  (∀ t : Settings, settingsBody t =
    [t.linkRate.code, byte t.replyWindow, byte t.broadcastGap, t.filter.code, byte t.hostTimeout,
      byte (16 * t.wakeLevels.toNat)]) ∧
  faultBody none = [] ∧
  (∀ f : FaultRecord, faultBody (some f) = [f.kind.code] ++ low4 f.stamp.toNat ++
    [f.mode.code, f.dispatcher.code, optByte (f.exchangeKind.map ExchangeKind.code),
      optByte (f.slot.map (fun i => byte i.val)), optByte (f.station.map (fun a => byte a.val)),
      optByte (f.level.map (fun l => byte (4 + l.val))), flagBit f.retained 0,
      optByte (f.second.map FaultKind.code)]) ∧
  (∀ (filler : Byte × Byte) (stamp : Stamp),
    let recorded (body : ReportBody) (kind : Byte) (fields : List Byte) : Prop :=
      Report.record filler ⟨stamp, body⟩ =
        kind :: byte (6 + fields.length) :: (low4 stamp.toNat ++ fields)
    (∀ slot st c o refusal response attempts late run tooLate,
      recorded (.completion slot st c o refusal response attempts late run tooLate) 1
        ([byte slot.val, byte st.val, c.code, o.code, refusal.getD 0, byte attempts, byte late] ++
          low2 run.toNat ++ [flagBit tooLate 0, byte (response.getD []).length] ++
          response.getD [])) ∧
    (∀ st reason old new score identity failed, ∃ set : SlotSet,
      (∀ i : SlotId, set.getLsbD i.val = decide (i ∈ failed)) ∧
      recorded (.station st reason old new score identity failed) 2
        ([byte st.val, reason.code, optByte (old.map StationState.code), new.code, byte score,
          (identity.getD filler).1, (identity.getD filler).2] ++ low3 set.toNat)) ∧
    (∀ l st c detail, recorded (.attnCause l st c detail) 3
      ([0, byte (4 + l.val), byte st.val, byte c.val, byte detail.length] ++ detail)) ∧
    (∀ st levels last, ∃ set : Byte,
      (∀ k : Fin 8, set.getLsbD k.val = decide (∃ l ∈ levels, k.val = 4 + l.val)) ∧
      recorded (.attnUnread st levels last) 3
        [1, byte st.val, if last.isSome then 0 else 1, set, optByte (last.map Outcome.code)]) ∧
    (∀ l set union, recorded (.attnStuck l set union) 3
      ([2, byte (4 + l.val)] ++ low4 set.toNat ++ [flagBit union 0])) ∧
    (∀ l o, recorded (.attnSoft l o) 3 ([3, byte (1 + l.val)] ++ low2 o.toNat)) ∧
    (∀ kind slot level st o, recorded (.step kind slot level st o) 4
      [kind.code, optByte (slot.map (fun i => byte i.val)),
        optByte (level.map (fun l => byte (4 + l.val))), byte st.val, o.code,
        match o with | .nak reason => reason | _ => 0,
        match o with | .rollResult v _ _ => v.code | _ => 0xFF]) ∧
    ∀ old new c w, recorded (.mode old new c w) 5
      [old.code, new.code, c.code, optByte (w.map WakeSource.code)]) ∧
  (∀ (s : State) (i : SlotId), s.slots[i].payload.length ≤ 16 →
    (s.slots[i].response.getD []).length ≤ 16 →
    18 ≤ (s.slotBody i).length ∧ (s.slotBody i).length ≤ 50) ∧
  (∀ e : Station, (stationBody e).length = 11) ∧
  (∀ s : State, s.timersBody.length = 96) ∧
  (∀ t : Settings, (settingsBody t).length = 6) ∧
  (∀ s : State, s.statusBody.length = 13 ∧ s.identifyBody.length = 9) ∧
  (∀ f : Option FaultRecord, (faultBody f).length = if f.isSome then 13 else 0) ∧
  (∀ s : State, (∀ l : LineId, s.lines[l].serviceList.length ≤ 31) →
    67 ≤ s.attentionBody.length ∧ s.attentionBody.length ≤ 191) ∧
  ∀ (filler : Byte × Byte) (r : Report),
    (∀ slot st c o refusal response attempts late run tooLate,
      r.body = .completion slot st c o refusal response attempts late run tooLate →
        (r.record filler).length = 17 + (response.getD []).length) ∧
    (∀ st reason old new score identity failed,
      r.body = .station st reason old new score identity failed → (r.record filler).length = 16) ∧
    (∀ l st c detail, r.body = .attnCause l st c detail →
      (r.record filler).length = 11 + detail.length) ∧
    (∀ st levels last, r.body = .attnUnread st levels last → (r.record filler).length = 11) ∧
    (∀ l set u, r.body = .attnStuck l set u → (r.record filler).length = 13) ∧
    (∀ l o, r.body = .attnSoft l o → (r.record filler).length = 10) ∧
    (∀ k slot l st o, r.body = .step k slot l st o → (r.record filler).length = 13) ∧
    (∀ old new c w, r.body = .mode old new c w → (r.record filler).length = 10)

/-- START arms every slot of its set in ascending order, or none (R11, R12). The slots of the set are those
whose bits are set; the armed states are WAITING, READY and ACTIVE (TABLE 1-2). -/
def Obligations.StartArmsAllOrNone : Prop :=
  (∀ set : SlotSet, (chosenSlots set).Pairwise (fun i j => i < j) ∧
    ∀ i : SlotId, i ∈ chosenSlots set ↔ set.getLsbD i.val = true) ∧
  (∀ state : SlotState, state.armed = true ↔
    state = .waiting ∨ state = .ready ∨ state = .active) ∧
  ∀ (tag : Byte) (set : SlotSet) (s : State), PortFree s → s.mode ≠ .halted →
    let fit (i : SlotId) : Prop := s.slots[i].state ≠ .empty ∧ s.slots[i].state.armed = false ∧
      ∀ st : StationId, s.slots[i].station = stationAddress st →
        s.stations[st].state ≠ .vacant ∧ s.stations[st].state ≠ .lost
    (set = 0 → Answered (.start tag set) tag (.start set) s .badValue [] (fun t => t)) ∧
    (∀ lowest : SlotId, (chosenSlots set).head? = some lowest →
      (s.mode = .configuration →
        Answered (.start tag set) tag (.start set) s .mode [byte lowest.val] (fun t => t)) ∧
      ((s.mode = .run ∨ s.mode = .hold ∨ s.mode = .loopback) →
        (∀ (i : SlotId) (before after : List SlotId), chosenSlots set = before ++ i :: after →
          (∀ j ∈ before, fit j) →
          (s.slots[i].state = .empty →
            Answered (.start tag set) tag (.start set) s .notLoaded [byte i.val] (fun t => t)) ∧
          (s.slots[i].state.armed = true →
            Answered (.start tag set) tag (.start set) s .slotArmed [byte i.val] (fun t => t)) ∧
          (∀ st : StationId, s.slots[i].state ≠ .empty → s.slots[i].state.armed = false →
            s.slots[i].station = stationAddress st →
            (s.stations[st].state = .vacant →
              Answered (.start tag set) tag (.start set) s .stationVacant [byte i.val]
                (fun t => t)) ∧
            (s.stations[st].state = .lost →
              Answered (.start tag set) tag (.start set) s .stationLost [byte i.val]
                (fun t => t)))) ∧
        ((∀ i ∈ chosenSlots set, fit i) →
          Answered (.start tag set) tag (.start set) s .ok []
            (fun t => (chosenSlots set).foldl State.startSlot t))))

/-- What START does to one slot (R12, R5, R3): its history cleared but for the late and run counts, READY
at the back of its band or WAITING, its station's armed count up by 1. -/
def Obligations.StartedSlotIsArmed : Prop :=
  ∀ (s : State) (i : SlotId),
    s.startSlot i = { s with
      slots := s.slots.set i { s.slots[i] with
        state := if s.slots[i].trigger = none then .ready else .waiting
        attempts := 0, outcome := none, refusal := none, response := none
        abortPending := false, abortTooLate := false, codeAgrees := true }
      stations := recount s.stations s.slots[i].station (fun n => n + 1)
      ready := if s.slots[i].trigger = none then
          s.ready.takeWhile (fun j => decide (s.slots[i].priority ≤ s.slots[j].priority)) ++
            i :: s.ready.dropWhile (fun j => decide (s.slots[i].priority ≤ s.slots[j].priority))
        else s.ready }

/-- ABORT SLOT (R21). -/
def Obligations.AbortSlotActsOnTheSlotsState : Prop :=
  ∀ (tag : Byte) (s : State), PortFree s → s.mode ≠ .halted →
    (∀ n : Byte, 24 ≤ n.toNat →
      Answered (.abortSlot tag n) tag (.abortSlot n) s .badValue [] (fun t => t)) ∧
    ∀ i : SlotId,
      ((s.slots[i].state = .waiting ∨ s.slots[i].state = .ready) →
        Answered (.abortSlot tag (byte i.val)) tag (.abortSlot (byte i.val)) s .aborted []
          (fun t => { t with
            slots := t.slots.set i { t.slots[i] with
              state := .aborted, outcome := some .aborted, refusal := none, response := none
              run := t.slots[i].run + 1, codeAgrees := true }
            ready := t.ready.erase i
            stations := recount t.stations t.slots[i].station (fun n => n - 1) })) ∧
      (s.slots[i].state = .active →
        Answered (.abortSlot tag (byte i.val)) tag (.abortSlot (byte i.val)) s .inFlight []
          (fun t => { t with
            slots := t.slots.set i { t.slots[i] with abortPending := true, codeAgrees := true } })) ∧
      (s.slots[i].state.armed = false →
        Answered (.abortSlot tag (byte i.val)) tag (.abortSlot (byte i.val)) s .notArmed []
          (fun t => t))

/-- ABORT ALL (R22): each slot aborted as ABORT SLOT would, in ascending order; the reply names the slots
aborted at once and the slot left with abort pending. -/
def Obligations.AbortAllActsOnEverySlot : Prop :=
  (∀ (slots : List SlotId) (i : SlotId), (slotsToSet slots).getLsbD i.val = decide (i ∈ slots)) ∧
  (∀ state : SlotState, state.waits = true ↔ state = .waiting ∨ state = .ready) ∧
  (∀ (tag : Byte) (s : State), PortFree s → s.mode ≠ .halted →
    Answered (.abortAll tag) tag .abortAll s .ok
      (low3 (slotsToSet (allSlots.filter (fun i => s.slots[i].state.waits))).toNat ++
        [optByte ((allSlots.find? (fun i => decide (s.slots[i].state = .active))).map
          (fun i => byte i.val))])
      (fun t => allSlots.foldl State.abortOne t)) ∧
  ∀ (s : State) (i : SlotId),
    (allSlots.foldl State.abortOne s).slots[i] =
      if s.slots[i].state.waits then { s.slots[i] with
        state := .aborted, outcome := some .aborted, refusal := none, response := none
        run := s.slots[i].run + 1, codeAgrees := true }
      else if s.slots[i].state = .active then
        { s.slots[i] with abortPending := true, codeAgrees := true }
      else s.slots[i]

/-- What becomes of a slot at the end of its exchange (R16 to R20, TABLE 1-4), where `stationLostOf` asks
whether the slot's station is LOST; every other slot is left as it stands. The slot table owns a SLOT
exchange; a PROBE has no owner after the station table (R47, TABLE 2-7). -/
def Obligations.SlotMovesByTheOutcome : Prop :=
  (∀ (s : State) (x : Exchange) (o : Outcome) (i : SlotId), x.kind = .slot → x.slot = some i →
    s.ownerTakes x o = s.slotEnd i o) ∧
  (∀ (s : State) (x : Exchange) (o : Outcome), x.kind = .probe → s.ownerTakes x o = s) ∧
  (∀ (s : State) (i : SlotId), s.stationLostOf i = true ↔
    ∃ st : StationId, s.slots[i].station = stationAddress st ∧ s.stations[st].state = .lost) ∧
  ∀ (s : State) (i : SlotId),
    let r := s.slots[i]
    let failed (o : SlotOutcome) (reason : Option Byte) : Slot := { r with
      state := .failed, outcome := some o, refusal := reason, response := none, run := r.run + 1
      abortPending := false, codeAgrees := true }
    let aborted (n : Nat) : Slot := { r with
      state := .aborted, outcome := some .aborted, refusal := none, response := none
      run := r.run + 1, abortPending := false, attempts := n, codeAgrees := true }
    let retried (n : Nat) : Slot := { r with
      state := .ready, abortPending := false, attempts := n, codeAgrees := true }
    let done (payload : List Byte) : Slot := { r with
      state := if r.repeating && !r.abortPending then .waiting else .done
      outcome := some .ok, refusal := none, response := some payload, run := r.run + 1
      abortPending := false, abortTooLate := r.abortTooLate || r.abortPending, codeAgrees := true }
    let linkFailure (o : Outcome) (exhausted : SlotOutcome) : Prop :=
      (s.slotEnd i o).slots[i] =
        if s.stationLostOf i then failed .stationLost none
        else if r.abortPending then aborted r.attempts
        else if r.attempts ≤ r.retryLimit.val then retried r.attempts
        else failed exhausted none
    (∀ payload, (s.slotEnd i (.ack payload)).slots[i] = done payload) ∧
    (s.slotEnd i .broadcastDone).slots[i] = done [] ∧
    (∀ reason, (s.slotEnd i (.nak reason)).slots[i] = failed .refused (some reason)) ∧
    ((s.slotEnd i .busy).slots[i] =
      if r.abortPending then aborted r.attempts
      else if r.attempts ≤ r.retryLimit.val then retried r.attempts
      else failed .busy none) ∧
    linkFailure .silent .noReply ∧ linkFailure .garbled .badReply ∧
    linkFailure .echoMismatch .badReply ∧
    (∀ o, o = .blocked ∨ o = .abandoned →
      (s.slotEnd i o).slots[i] =
        if r.abortPending then aborted (r.attempts - 1) else retried (r.attempts - 1)) ∧
    ∀ (o : Outcome) (j : SlotId), j ≠ i → (s.slotEnd i o).slots[j] = s.slots[j]

/-- A slot that returns to READY joins its band at the front, and its armed count stands; a slot that ends
its run leaves the queue as it stands, and a final state lowers the armed count (R5, R16). -/
def Obligations.SlotEndMovesQueueAndCount : Prop :=
  ∀ (s : State) (i : SlotId) (o : Outcome),
    ((s.slotEnd i o).slots[i].state = .ready → s.slots[i].state ≠ .ready →
      (s.slotEnd i o).ready =
        s.ready.takeWhile (fun j => decide (s.slots[i].priority < s.slots[j].priority)) ++
          i :: s.ready.dropWhile (fun j => decide (s.slots[i].priority < s.slots[j].priority)) ∧
      (s.slotEnd i o).stations = s.stations) ∧
    ((s.slotEnd i o).slots[i].state = .waiting → s.slots[i].state ≠ .waiting →
      (s.slotEnd i o).ready = s.ready ∧ (s.slotEnd i o).stations = s.stations) ∧
    (s.slots[i].state = .active → (s.slotEnd i o).slots[i].state.armed = false →
      (s.slotEnd i o).ready = s.ready ∧
      (s.slotEnd i o).stations = recount s.stations s.slots[i].station (fun n => n - 1))

/-- The COMPLETION reports of a slot's exchange end (R17 to R20, R26): for a run ended OK under EVERY
only, for a run ended otherwise always but for STATION_LOST, for a retry never. -/
def Obligations.CompletionReportsFollowThePolicy : Prop :=
  ∀ (s : State) (i : SlotId) (o : Outcome), s.slots[i].state = .active →
    (∀ v p m, o ≠ .rollResult v p m) →
    let r := (s.slotEnd i o).slots[i]
    (s.slotEnd i o).reports =
      if r.state = .ready ∨ (r.outcome = some .ok ∧ r.failuresOnly = true) ∨
          r.outcome = some .stationLost then s.reports
      else s.reports ++ [⟨s.uptime, .completion i r.station r.command (r.outcome.getD .ok) r.refusal
        r.response r.attempts r.late r.run r.abortTooLate⟩]

/-! ## The dispatcher -/

/-- A READY slot is held while its station is PROBING, or SILENCED with the slot's priority 0, 1 or 2 (R6);
the candidate is that of the highest rank that offers one (R32, R84, R100). -/
def Obligations.CandidateIsOfTheHighestRank : Prop :=
  (∀ st : StationId, (stationAddress st).val = st.val) ∧
  ∀ s : State,
    let due (l : LineId) : Prop := s.threshold.val < 4 + l.val ∧
      (s.lines[l].state = .pending ∨ s.lines[l].state = .roll ∨ s.lines[l].state = .serving)
    let noneUrgent : Prop := ∀ j ∈ s.ready, s.slots[j].priority = 3 → s.held j = true
    let noneProbing : Prop := s.mode = .run → ∀ st : StationId, s.stations[st].state ≠ .probing
    (∀ i : SlotId, s.held i = true ↔ ∃ st : StationId, s.slots[i].station = stationAddress st ∧
      (s.stations[st].state = .probing ∨
        (s.stations[st].state = .silenced ∧ s.slots[i].priority.val < 3))) ∧
    (∀ (i : SlotId) (before after : List SlotId), s.ready = before ++ i :: after →
      s.slots[i].priority = 3 → s.held i = false →
      (∀ j ∈ before, s.slots[j].priority = 3 → s.held j = true) →
      s.candidate = some (s.slotExchange i)) ∧
    (∀ l : LineId, noneUrgent → due l → (∀ k : LineId, l < k → ¬ due k) →
      ((s.lines[l].state = .pending ∨ s.lines[l].state = .roll) →
        s.candidate = some (s.rollExchange l)) ∧
      (∀ (st : StationId) (rest : List StationId), s.lines[l].state = .serving →
        s.lines[l].serviceList = st :: rest → s.candidate = some (s.causeExchange l st))) ∧
    (∀ st : StationId, noneUrgent → (∀ l : LineId, ¬ due l) → s.mode = .run →
      s.stations[st].state = .probing →
      (∀ k : StationId, k < st → s.stations[k].state ≠ .probing) →
      s.candidate = some (s.probeExchange st)) ∧
    (∀ (i : SlotId) (before after : List SlotId), noneUrgent → (∀ l : LineId, ¬ due l) →
      noneProbing → s.ready = before ++ i :: after → s.slots[i].priority ≠ 3 → s.held i = false →
      (∀ j ∈ before, s.slots[j].priority ≠ 3 → s.held j = true) →
      s.candidate = some (s.slotExchange i)) ∧
    ((∀ j ∈ s.ready, s.held j = true) → (∀ l : LineId, ¬ due l) → noneProbing →
      s.candidate = none)

/-- A taking whose check codes agree starts its exchange (R33, R34, R35, R15, R101, R37): the record is
written, 3 entries reserved, the offering block told, and on an idle line the frame leaves at once. The
records are those of the candidates, with the toggle and payload that R35 and TABLE 3-2 give. -/
def Obligations.TakingStartsTheExchange : Prop :=
  [SlotCommand.read, .write, .control, .sync].map SlotCommand.link =
    [LinkCommand.read, .write, .control, .sync] ∧
  ∀ s : State,
    let slot (i : SlotId) : Exchange :=
      { kind := .slot, slot := some i, station := s.slots[i].station, level := none
        command := s.slots[i].command.link, toggle := s.nextToggle s.slots[i].station
        phase := .sending, stepPending := s.stepEnable, payload := s.slots[i].payload }
    let roll (l : LineId) : Exchange :=
      { kind := .roll, slot := none, station := 31, level := some l, command := .roll
        toggle := false, phase := .sending, stepPending := s.stepEnable
        payload := [byte (4 + l.val)] }
    let cause (l : LineId) (st : StationId) : Exchange :=
      { kind := .cause, slot := none, station := stationAddress st, level := some l
        command := .cause, toggle := s.stations[st].toggle, phase := .sending
        stepPending := s.stepEnable, payload := [byte (4 + l.val)] }
    let probe (st : StationId) : Exchange :=
      { kind := .probe, slot := none, station := stationAddress st, level := none
        command := .probe, toggle := false, phase := .sending, stepPending := s.stepEnable
        payload := [] }
    (∀ st : StationId, s.nextToggle (stationAddress st) = s.stations[st].toggle) ∧
    s.nextToggle 31 = false ∧
    (∀ i : SlotId, s.slotExchange i = slot i) ∧ (∀ l : LineId, s.rollExchange l = roll l) ∧
    (∀ (l : LineId) (st : StationId), s.causeExchange l st = cause l st) ∧
    (∀ st : StationId, s.probeExchange st = probe st) ∧
    (s.canStart = true → ∀ active : Bool,
      let sends (x : Exchange) (t : State) : State :=
        if s.mode = .loopback then t
        else if active then { t with lineActive := true }
        else { t with
          lineActive := false
          lde := true
          linkFrame := some (lineLevels (commandFrame x.station x.command x.toggle x.payload)) }
      (∀ i : SlotId, s.candidate = some (slot i) → s.slots[i].codeAgrees = true →
        (∀ st : StationId, s.slots[i].station = stationAddress st →
          s.stations[st].codeAgrees = true) →
        exec (.takeCandidate active (.alone .none)) s = .next (sends (slot i) { s with
          reserved := 3
          exchange := some (slot i)
          dispatcher := .busy
          ready := s.ready.erase i
          slots := s.slots.set i
            { s.slots[i] with state := .active, attempts := s.slots[i].attempts + 1 } })) ∧
      (∀ l : LineId, s.candidate = some (roll l) →
        exec (.takeCandidate active (.alone .none)) s = .next (sends (roll l) { s with
          reserved := 3
          exchange := some (roll l)
          dispatcher := .busy
          lines := if s.lines[l].state = .pending then
              s.lines.set l { s.lines[l] with state := .roll, rollAttempt := false, unionUsed := false }
            else s.lines })) ∧
      ∀ (st : StationId) (x : Exchange), (x = probe st ∨ ∃ l : LineId, x = cause l st) →
        s.candidate = some x → s.stations[st].codeAgrees = true →
        exec (.takeCandidate active (.alone .none)) s = .next (sends x { s with
          reserved := 3
          exchange := some x
          dispatcher := .busy }))

/-- A taking is cancelled by a check code that does not agree (R33, R15, R76, R166): the slot fails
INTERNAL, or the station's entry is rewritten whole and lost; the reservation is released and a TABLE_CHECK
fault recorded, which halts the part where the record already holds a fault. No frame is sent. With a
crystal loss of the same moment that the report unit takes first (R165), the loss's fault fills the record,
HOLD is forced, and the TABLE_CHECK of the taking halts the part. How a storage failure reaches the model is
its own choice (log 5), and so is that the loss's step comes before the taking's reports (log 36). -/
def Obligations.TakingIsCancelledByACheckCode : Prop :=
  ∀ (active : Bool) (s : State) (x : Exchange), s.canStart = true → s.candidate = some x →
    let fault : FaultRecord :=
      { kind := .tableCheck, stamp := s.uptime, mode := s.mode, dispatcher := .idle
        exchangeKind := some x.kind, slot := x.slot, station := some x.station, level := x.level
        retained := false, second := none }
    let entry : Station :=
      { state := .lost, identity := none, score := 0, toggle := false, causeMask := 0
        lastCause := none, armed := 0, probeFailures := 0, codeAgrees := true }
    let lost (st : StationId) (t : State) : State :=
      { State.loseStation { t with reserved := 3, stations := t.stations.set st entry } st .check none none
        with reserved := 0 }
    let failed (i : SlotId) (r : Slot) (t : State) : State := { t with
      slots := t.slots.set i r
      ready := t.ready.erase i
      stations := recount t.stations t.slots[i].station (fun n => n - 1)
      reports := t.reports ++ [⟨t.uptime, .completion i r.station r.command .internal none none
        r.attempts r.late r.run r.abortTooLate⟩]
      reserved := 0 }
    let halts (f : FaultRecord) (t : State) : State := { t with
      mode := .halted, requested := none, silence := none, dispatcher := .stopped
      lde := false, linkFrame := none
      timers := mapAll (fun r : Timer => { r with due := false }) s.timers
      fault := some { f with second := some .tableCheck } }
    let loss : FaultRecord :=
      { kind := .crystalLost, stamp := s.uptime, mode := s.mode, dispatcher := .idle
        exchangeKind := none, slot := none, station := none, level := none, retained := false
        second := none }
    let held : State := State.changeMode { s with
      intake := .search, holding := [], overrun := none, reply := none
      clockSource := .lowSpeed, monitorRunning := false, crystal := .starting
      fault := some loss } .hold .clock
    (∀ st : StationId, (lost st s).stations[st] = entry) ∧
    (∀ (i : SlotId) (r : Slot), x.kind = .slot → x.slot = some i →
      r = { s.slots[i] with
        state := .failed, outcome := some .internal, refusal := none, response := none
        run := s.slots[i].run + 1, codeAgrees := true } →
      (s.fault.all FaultRecord.retained →
        exec (.takeCandidate active (.alone .slot)) s =
          .next { failed i r s with fault := some fault }) ∧
      (∀ f : FaultRecord, s.exchange = none → s.fault = some f → f.retained = false → f.second = none →
        exec (.takeCandidate active (.alone .slot)) s = .next (halts f (failed i r s))) ∧
      (s.monitorRunning = true → s.exchange = none → s.fault.all FaultRecord.retained →
        exec (.takeCandidate active (.behindLoss .slot)) s = .next (halts loss (failed i r held)))) ∧
    (∀ st : StationId, x.station = stationAddress st →
      (∀ i, x.slot = some i → s.slots[i].codeAgrees = true) →
      (s.fault.all FaultRecord.retained →
        exec (.takeCandidate active (.alone .station)) s =
          .next { lost st s with fault := some fault }) ∧
      (∀ f : FaultRecord, s.exchange = none → s.fault = some f → f.retained = false → f.second = none →
        exec (.takeCandidate active (.alone .station)) s = .next (halts f (lost st s))) ∧
      (s.monitorRunning = true → s.exchange = none → s.fault.all FaultRecord.retained →
        exec (.takeCandidate active (.behindLoss .station)) s = .next (halts loss (lost st held))))

/-- The conditions of R30: without them, or with no candidate, a look of the dispatcher changes nothing. The
MODE reports are the system class, every other report is of the exchange class (R161, TABLE 9-1). -/
def Obligations.NoExchangeStartsWithoutItsConditions : Prop :=
  (∀ r : Report, r.isSystem = true ↔ ∃ old new cause wake, r.body = .mode old new cause wake) ∧
  (∀ s : State, s.systemOccupied = s.reports.countP (fun r => r.isSystem) ∧
    s.exchangeOccupied = s.reports.countP (fun r => !r.isSystem)) ∧
  ∀ s : State,
    (s.canStart = true ↔ (s.mode = .run ∨ s.mode = .loopback) ∧ s.requested = none ∧
      s.dispatcher = .idle ∧ s.exchangeOccupied + s.reserved ≤ 25) ∧
    ∀ (active : Bool) (u : Upset), (s.canStart = false ∨ s.candidate = none) →
      exec (.takeCandidate active (.alone u)) s = .next s

/-- STEP ENABLE, STEP DISABLE and STEP ADVANCE (R50, R53). -/
def Obligations.StepRequestsActOnTheDispatcher : Prop :=
  ∀ (tag : Byte) (s : State), PortFree s → s.mode ≠ .halted →
    Answered (.stepEnable tag) tag .stepEnable s .ok [] (fun t => { t with stepEnable := true }) ∧
    Answered (.stepDisable tag) tag .stepDisable s .ok [] (fun t => { t with
      stepEnable := false
      dispatcher := if t.dispatcher = .held then .idle else t.dispatcher }) ∧
    (s.dispatcher = .held →
      Answered (.stepAdvance tag) tag .stepAdvance s .ok []
        (fun t => { t with dispatcher := .idle })) ∧
    (s.dispatcher ≠ .held →
      Answered (.stepAdvance tag) tag .stepAdvance s .notHeld [] (fun t => t))

/-! ## The link -/

/-- SENDING on the pair (R37, R45, R54), and what leaves on LTX: the bytes of the command frame, start
mark, address and kind, toggle and length, payload, CRC-16 high byte first (R57, R59, TABLE 11-7), each as
a character of 10 bit times, back to back (R56). That a data bit of 1 is carried at the idle level is the
model's presumption (log 34). -/
def Obligations.SendingEndsInSentOrBlocked : Prop :=
  [LinkCommand.read, .write, .control, .sync, .probe, .cause, .roll].map LinkCommand.code =
    [1, 2, 3, 4, 5, 6, 7] ∧
  (∀ (a : Address) (c : LinkCommand) (toggle : Bool) (payload : List Byte), payload.length ≤ 16 →
    let covered := byte (a.val + 32 * c.code.toNat) ::
      byte (payload.length + if toggle then 128 else 0) :: payload
    commandFrame a c toggle payload = 0xC3 :: (covered ++ crcBytes covered) ∧
    (commandFrame a c toggle payload).length = 5 + payload.length) ∧
  (∀ b : Byte,
    let bit (k : Nat) : LineLevel := if b.getLsbD k then .idle else .active
    characterLevels b =
      [.active, bit 0, bit 1, bit 2, bit 3, bit 4, bit 5, bit 6, bit 7, .idle]) ∧
  (∀ (b : Byte) (bytes : List Byte), lineLevels [] = [] ∧
    lineLevels (b :: bytes) = characterLevels b ++ lineLevels bytes) ∧
  ∀ (s : State) (x : Exchange), s.exchange = some x → x.phase = .sending → s.mode ≠ .loopback →
    (s.lde = false →
      exec .lineBecomesIdle s = .next { s with
        lineActive := false
        lde := true
        linkFrame := some (lineLevels (commandFrame x.station x.command x.toggle x.payload)) } ∧
      exec .lineTestExpiry s = .next (s.endExchange x .blocked)) ∧
    (s.lde = true →
      exec .commandSent s = .next { s with
        lde := false
        linkFrame := none
        exchange := some { x with
          phase := if x.station = 31 ∧ x.command ≠ .roll then .gap else .awaiting } })

/-- The loop responder's answers, formed as the command is completed (R72 to R74, TABLE 3-7). -/
def Obligations.LoopResponderAnswersEachCommand : Prop :=
  ∀ (s : State) (x : Exchange), s.exchange = some x → x.phase = .sending → s.mode = .loopback →
    let answered (a : Option LoopAnswer) (p : Phase) (t : State) : State :=
      { t with loopAnswer := a, exchange := some { x with phase := p } }
    (∀ st : StationId, x.station = stationAddress st →
      (x.command = .read ∨ x.command = .write ∨ x.command = .control) →
      exec .commandSent s = .next (answered (some (.ack x.payload)) .awaiting s)) ∧
    (x.station = 31 → (x.command = .write ∨ x.command = .control ∨ x.command = .sync) →
      exec .commandSent s = .next (answered none .gap s)) ∧
    (∀ l : LineId, x.command = .roll → x.level = some l →
      exec .commandSent s = .next (answered
        (if s.lines[l].loopSet = 0 then none
          else some (.roll s.lines[l].loopSet (mirrored s.lines[l].loopSet))) .awaiting s)) ∧
    (∀ (l : LineId) (st : StationId), x.command = .cause → x.level = some l →
      x.station = stationAddress st →
      (s.lines[l].loopSet.getLsbD st.val = false →
        exec .commandSent s = .next (answered (some (.nak 1)) .awaiting s)) ∧
      (∀ set : StationSet, s.lines[l].loopSet.getLsbD st.val = true → s.lines[l].filtered = true →
        set = s.lines[l].loopSet &&& ~~~((1 : StationSet) <<< st.val) →
        exec .commandSent s = .next (answered (some (.ack [byte s.lines[l].loopCause.val])) .awaiting
          { s with lines := s.lines.set l (Line.takeLine { s.lines[l] with loopSet := set }
              (set != 0)) })))

/-- AWAITING and GAP (R38, R40, R62, R68): a start opens RECEIVING; the expiry of the window or of the gap
ends the exchange. -/
def Obligations.AwaitingAndGapMoveOn : Prop :=
  ∀ (s : State) (x : Exchange), s.exchange = some x → s.mode ≠ .loopback →
    (x.phase = .awaiting → x.command ≠ .roll →
      exec .replyStart s = .next { s with exchange := some { x with phase := .receiving } } ∧
      exec .replyWindowExpiry s = .next (s.endExchange x .silent)) ∧
    (x.phase = .awaiting → x.command = .roll →
      exec .rollCallOpening s = .next { s with exchange := some { x with phase := .receiving } } ∧
      exec .replyWindowExpiry s = .next (s.endExchange x (.rollResult .consistent 0 0))) ∧
    (x.phase = .gap → exec .broadcastGapExpiry s = .next (s.endExchange x .broadcastDone))

/-- RECEIVING on the pair (R39, R42, R43, R56, R62, R69, R70): which outcome each event fixes. Characters
after a complete frame are not read; a framing error before its end gives GARBLED. A roll call whose
release checks all pass has its verdict, and one with a failed check is GARBLED from there. -/
def Obligations.ReceivingFixesTheOutcome : Prop :=
  ∀ (s : State) (x : Exchange), s.exchange = some x → x.phase = .receiving → s.mode ≠ .loopback →
    (x.command ≠ .roll →
      (∀ (bytes : List Byte) (rest : List Character) (o : Outcome), classifyReply x bytes = some o →
        exec (.replyComplete (bytes.map sampled ++ rest)) s = .next (s.endExchange x o)) ∧
      (∀ (bytes : List Byte) (c : Character) (rest : List Character), classifyReply x bytes = none →
        c.stop = .active →
        exec (.replyComplete (bytes.map sampled ++ c :: rest)) s =
          .next (s.endExchange x .garbled)) ∧
      exec .replyStall s = .next (s.endExchange x .garbled) ∧
      exec .replyFramingError s = .next (s.endExchange x .garbled) ∧
      (∀ c : Character, characterByte c ≠ 0xC3 →
        exec (.replyNoStartMark c) s = .next (s.endExchange x .garbled)) ∧
      (∀ c : Character, 16 < (characterByte c &&& 0x7F).toNat →
        exec (.replyLengthAbove16 c) s = .next (s.endExchange x .garbled))) ∧
    (x.command = .roll →
      ∀ values checks : RollSamples,
        let presence := presenceWord values
        let mirror := mirrorWord values
        (firstBreak checks = none →
          exec (.rollCallComplete values checks) s = .next (s.endExchange x
            (.rollResult (rollVerdict presence mirror) presence mirror))) ∧
        ∀ period : Fin 63, firstBreak checks = some period →
          let ended : Outcome := .rollResult .garbled (brokenWords period presence mirror).1
            (brokenWords period presence mirror).2
          exec (.rollCallBroken period values checks) s = .next (s.endExchange x ended) ∧
          exec (.rollCallComplete values checks) s = .next (s.endExchange x ended))

/-- An answer of the loop responder is taken as a received one would be, and a broadcast's gap expires
(R72, R64). -/
def Obligations.LoopAnswersEndTheirExchange : Prop :=
  ∀ (s : State) (x : Exchange), s.exchange = some x → s.mode = .loopback →
    (∀ (payload : List Byte) (characters : List Character), s.loopAnswer = some (.ack payload) →
      x.command ≠ .roll →
      (x.phase = .awaiting →
        exec .replyStart s = .next { s with exchange := some { x with phase := .receiving } }) ∧
      (x.phase = .receiving →
        exec (.replyComplete characters) s = .next (s.endExchange x (.ack payload)))) ∧
    (∀ (reason : Byte) (characters : List Character), s.loopAnswer = some (.nak reason) →
      x.command ≠ .roll →
      (x.phase = .awaiting →
        exec .replyStart s = .next { s with exchange := some { x with phase := .receiving } }) ∧
      (x.phase = .receiving →
        exec (.replyComplete characters) s = .next (s.endExchange x (.nak reason)))) ∧
    (x.phase = .gap → exec .broadcastGapExpiry s = .next (s.endExchange x .broadcastDone)) ∧
    (∀ (p m : StationSet) (values checks : RollSamples), s.loopAnswer = some (.roll p m) →
      x.command = .roll →
      (x.phase = .awaiting →
        exec .rollCallOpening s = .next { s with exchange := some { x with phase := .receiving } }) ∧
      (x.phase = .receiving →
        exec (.rollCallComplete values checks) s =
          .next (s.endExchange x (.rollResult (rollVerdict p m) p m)))) ∧
    (s.loopAnswer = none → x.command = .roll → x.phase = .awaiting →
      exec .replyWindowExpiry s = .next (s.endExchange x (.rollResult .consistent 0 0)))

/-- A reply frame is classified by the five tests of R42, in order: every frame that a station can send
is read as its status, with its payload; a wrong CRC, address, toggle, status or payload length is found.
`fitsAck` is the table of test 5 for an ACK whose payload is no longer than 16 bytes. -/
def Obligations.ReplyFramesAreClassified : Prop :=
  ∀ (x : Exchange) (payload : List Byte), payload.length ≤ 16 →
    let fitsAck : Prop :=
      (x.command = .probe ∧ payload.length = 2) ∨
      (x.command = .cause ∧ 1 ≤ payload.length ∧ payload.length ≤ 9 ∧
        ∀ c ∈ payload.head?, c.toNat ≤ 15) ∨
      x.command = .read ∨ x.command = .write ∨ x.command = .control
    (fitsAck → classifyReply x (replyFrame x.station 0 x.toggle payload) = some (.ack payload)) ∧
    (¬ fitsAck → classifyReply x (replyFrame x.station 0 x.toggle payload) = some .garbled) ∧
    (∀ reason : Byte, payload = [reason] →
      classifyReply x (replyFrame x.station 1 x.toggle payload) = some (.nak reason)) ∧
    (payload.length ≠ 1 →
      classifyReply x (replyFrame x.station 1 x.toggle payload) = some .garbled) ∧
    (payload = [] → classifyReply x (replyFrame x.station 2 x.toggle payload) = some .busy) ∧
    (payload ≠ [] → classifyReply x (replyFrame x.station 2 x.toggle payload) = some .garbled) ∧
    classifyReply x (replyFrame x.station 3 x.toggle payload) = some .garbled ∧
    (∀ (a : Address) (status : Fin 4) (toggle : Bool), (a ≠ x.station ∨ toggle ≠ x.toggle) →
      classifyReply x (replyFrame a status toggle payload) = some .echoMismatch) ∧
    ∀ b1 b2 hi lo : Byte, (b2 &&& 0x7F).toNat = payload.length →
      linkCrc (b1 :: b2 :: payload) ≠ hi ++ lo →
      classifyReply x (0xC3 :: b1 :: b2 :: (payload ++ [hi, lo])) = some .garbled

/-- Presence slot n is period n + 1 and mirror slot k is period k + 32, asserted where the first sample is at
the active level; a roll breaks in the first period whose second sample, the release check, is (R69, R70).
A whole roll call is CONSISTENT exactly where presence slot n and mirror slot 30 - n read alike for every n
(R43); a broken one carries the slots read in the periods before the break (R70). -/
def Obligations.RollCallWordsAreCompared : Prop :=
  (∀ (values : RollSamples) (n : Fin 31),
    (presenceWord values).getLsbD n.val = decide (values[n.val + 1] = .active) ∧
    (mirrorWord values).getLsbD n.val = decide (values[n.val + 32] = .active)) ∧
  (∀ checks : RollSamples, (firstBreak checks = none ↔ ∀ p : Fin 63, checks[p] = .idle) ∧
    ∀ period : Fin 63, firstBreak checks = some period ↔
      checks[period] = .active ∧ ∀ p : Fin 63, p < period → checks[p] = .idle) ∧
  (∀ presence mirror : StationSet,
    (rollVerdict presence mirror = .consistent ↔
      ∀ n : Fin 31, presence.getLsbD n.val = mirror.getLsbD (30 - n.val)) ∧
    (rollVerdict presence mirror ≠ .consistent → rollVerdict presence mirror = .mismatch)) ∧
  ∀ (period : Fin 63) (presence mirror : StationSet) (n : Fin 31),
    (brokenWords period presence mirror).1.getLsbD n.val =
      (presence.getLsbD n.val && decide (n.val + 1 < period.val)) ∧
    (brokenWords period presence mirror).2.getLsbD n.val =
      (mirror.getLsbD n.val && decide (n.val + 32 < period.val))

/-- The handing out of an end is the steps of R47 in their order, for every exchange, outcome and requested
mode: the station table takes the outcome, then the owner; a BLOCKED end passes its fault and forces HOLD
(R45, R144, R165); a stepped exchange has its STEP report behind those of its owner (R52); the reservation
is released and the record discarded, which opens the soft levels to their test (R112); the dispatcher
takes its new state; a requested mode is completed (R140). With no requested mode the record and the
reservation are gone and the pair is released. A STEP report's outcome keeps a NAK's reason and a roll's
verdict and drops the payload and the words. -/
def Obligations.ExchangeEndLeavesTheDispatcherFree : Prop :=
  ((∀ payload, (Outcome.ack payload).bare = .ack []) ∧
    (∀ v p m, (Outcome.rollResult v p m).bare = .rollResult v 0 0) ∧
    ∀ o : Outcome, (∀ payload, o ≠ .ack payload) → (∀ v p m, o ≠ .rollResult v p m) → o.bare = o) ∧
  (∀ (s : State) (cause : ModeCause), s.forceHold cause =
    if s.mode = .run ∨ s.mode = .loopback then s.changeMode .hold cause else s) ∧
  (∀ (s : State) (f : FaultRecord),
    (s.fault.all FaultRecord.retained → s.takeFault f = { s with fault := some f }) ∧
    ∀ r : FaultRecord, s.fault = some r → r.retained = false →
      (r.second ≠ none → s.takeFault f = s) ∧
      (r.second = none → s.takeFault f = { s with
        mode := .halted, requested := none, silence := none, lde := false, linkFrame := none
        dispatcher := if s.dispatcher = .busy then .busy else .stopped
        timers := mapAll (fun r : Timer => { r with due := false }) s.timers
        fault := some { r with second := some f.kind } })) ∧
  (∀ (s : State) (x : Exchange) (o : Outcome),
    let owned : State :=
      (State.stationTakes { s with lde := false, linkFrame := none } x o).ownerTakes x o
    let stuck : State := if o = .blocked then
        State.forceHold (owned.takeFault
          { kind := .linkStuck, stamp := owned.uptime, mode := owned.mode, dispatcher := .busy
            exchangeKind := some x.kind, slot := x.slot, station := some x.station, level := x.level
            retained := false, second := none }) .link
      else owned
    let stepped : State := if x.stepPending then { stuck with
        reports := stuck.reports ++ [⟨stuck.uptime, .step x.kind x.slot x.level x.station o.bare⟩]
        reserved := stuck.reserved - 1 }
      else stuck
    let released : State :=
      State.softTests { stepped with reserved := 0, exchange := none, loopAnswer := none }
    let free : State := { released with
      dispatcher := if released.mode = .run ∨ released.mode = .loopback then
        (if x.stepPending then .held else .idle) else .stopped }
    s.endExchange x o = match released.requested with
      | none => free
      | some m => free.changeMode m .request) ∧
  ∀ (s : State) (x : Exchange) (o : Outcome), s.requested = none →
    let t := s.endExchange x o
    t.exchange = none ∧ t.reserved = 0 ∧ t.loopAnswer = none ∧ t.lde = false ∧ t.linkFrame = none ∧
    t.requested = none ∧
    (x.stepPending = true →
      (⟨s.uptime, .step x.kind x.slot x.level x.station o.bare⟩ : Report) ∈ t.reports) ∧
    (o ≠ .blocked → t.mode = s.mode ∧ t.fault = s.fault ∧ t.silence = s.silence ∧
      t.timers = s.timers ∧
      t.dispatcher = if s.mode = .run ∨ s.mode = .loopback then
        (if x.stepPending then .held else .idle) else .stopped) ∧
    (o ≠ .blocked → x.stepPending = false →
      let owned : State :=
        (State.stationTakes { s with lde := false, linkFrame := none } x o).ownerTakes x o
      t = { State.softTests { owned with reserved := 0, exchange := none, loopAnswer := none } with
        dispatcher := if s.mode = .run ∨ s.mode = .loopback then .idle else .stopped })

/-- A BLOCKED end (R45, R144, R165). In RUN the LINK_STUCK fault is recorded and HOLD forced, with any
requested mode cleared. In HOLD the fault is recorded with no change of mode and no MODE report, and a
requested mode is then completed (R47, R140). In either, where the record holds a fault, the part is
HALTED instead. -/
def Obligations.BlockedEndForcesHoldOrHalts : Prop :=
  (∀ (s : State) (x : Exchange), s.mode = .hold →
    let t := s.endExchange x .blocked
    let stuck : FaultRecord :=
      { kind := .linkStuck, stamp := s.uptime, mode := .hold, dispatcher := .busy
        exchangeKind := some x.kind, slot := x.slot, station := some x.station, level := x.level
        retained := false, second := none }
    (s.fault.all FaultRecord.retained → t.fault = some stuck ∧
      (s.requested = none → t.mode = .hold ∧ t.dispatcher = .stopped ∧ t.requested = none ∧
        t.silence = s.silence ∧
        t.reports.filter Report.isSystem = s.reports.filter Report.isSystem) ∧
      (∀ m : Mode, s.requested = some m → t.mode = m ∧ t.requested = none ∧
        t.reports.filter Report.isSystem =
          s.reports.filter Report.isSystem ++ [⟨s.uptime, .mode .hold m .request none⟩])) ∧
    (∀ f : FaultRecord, s.fault = some f → f.retained = false → f.second = none →
      t.mode = .halted ∧ t.dispatcher = .stopped ∧ t.requested = none ∧ t.silence = none ∧
      t.fault = some { f with second := some .linkStuck } ∧
      t.reports.filter Report.isSystem = s.reports.filter Report.isSystem)) ∧
  ∀ (s : State) (x : Exchange), s.mode = .run →
    let t := s.endExchange x .blocked
    (s.fault.all FaultRecord.retained →
      t.mode = .hold ∧ t.dispatcher = .stopped ∧ t.requested = none ∧ t.silence = none ∧
      (⟨s.uptime, .mode .run .hold .link none⟩ : Report) ∈ t.reports ∧
      t.fault = some
        { kind := .linkStuck, stamp := s.uptime, mode := .run, dispatcher := .busy
          exchangeKind := some x.kind, slot := x.slot, station := some x.station, level := x.level
          retained := false, second := none }) ∧
    (∀ f : FaultRecord, s.fault = some f → f.retained = false → f.second = none →
      t.mode = .halted ∧ t.dispatcher = .stopped ∧ t.requested = none ∧ t.silence = none ∧
      t.fault = some { f with second := some .linkStuck })

/-- A requested mode is completed at the end of the exchange it waited for (R139, R140): with entry to
CONFIGURATION every WAITING or READY slot is disarmed and the dispatcher STOPPED. -/
def Obligations.RequestedModeIsCompletedAtTheEnd : Prop :=
  ∀ (s : State) (x : Exchange) (o : Outcome) (m : Mode), o ≠ .blocked → s.requested = some m →
    let t := s.endExchange x o
    t.mode = m ∧ t.requested = none ∧
    t.reports.getLast? = some ⟨s.uptime, .mode s.mode m .request none⟩ ∧
    t.silence = (if m = .run ∧ s.settings.hostTimeout ≠ 0 then some (10 * s.settings.hostTimeout)
      else none) ∧
    (m = .configuration → t.dispatcher = .stopped ∧ t.ready = [] ∧
      ∀ i : SlotId, t.slots[i].state ≠ .waiting ∧ t.slots[i].state ≠ .ready)

/-! ## Stations -/

/-- The station table takes the outcome of a SLOT or CAUSE exchange first (R87 to R89, R92): toggle, score
and state are written together, and a change of state is reported or, to LOST, is a loss. Nothing later
in the end of an exchange touches these fields. That the end of an exchange that runs on into HOLD is
taken as any other is the model's choice between R87 and R93 (log 35). -/
def Obligations.ScoringFollowsTheOutcome : Prop :=
  (∀ (s : State) (x : Exchange) (o : Outcome) (st : StationId), s.mode ≠ .loopback →
    x.station = stationAddress st → (x.kind = .slot ∨ x.kind = .cause) →
    let e := s.stations[st]
    let answered : Prop := (∃ payload, o = .ack payload) ∨ ∃ reason, o = .nak reason
    let failure : Prop := o = .silent ∨ o = .garbled ∨ o = .echoMismatch
    let live : Prop := e.state ≠ .vacant ∧ e.state ≠ .lost
    ∀ (toggle : Bool) (score : Nat) (state : StationState),
      (answered → toggle = !e.toggle) → (¬ answered → toggle = e.toggle) →
      (live → answered → score = e.score - 1) → (live → failure → score = e.score + 8) →
      ((¬ live ∨ (¬ answered ∧ ¬ failure)) → score = e.score) →
      state = (if live ∧ 240 ≤ score then .lost
        else if e.state = .good ∧ 64 ≤ score then .suspect
        else if e.state = .suspect ∧ 128 ≤ score then .silenced
        else if e.state = .suspect ∧ score < 32 then .good
        else if e.state = .silenced ∧ score < 96 then .suspect
        else e.state) →
      let written : State := { s with
        stations := s.stations.set st
          { e with toggle := toggle, score := score, state := state, codeAgrees := true } }
      (state = e.state → s.stationTakes x o = written) ∧
      (state ≠ e.state → state ≠ .lost → s.stationTakes x o = { written with
        reports := s.reports ++ [⟨s.uptime, .station st .score (some e.state) state score none []⟩]
        reserved := s.reserved - 1 }) ∧
      (state ≠ e.state → state = .lost →
        s.stationTakes x o = written.loseStation st .score (some e.state) x.slot)) ∧
  (∀ (s : State) (x : Exchange) (o : Outcome),
    (s.mode = .loopback ∨ x.station = 31 ∨ x.kind = .roll) → s.stationTakes x o = s) ∧
  ∀ (s : State) (x : Exchange) (o : Outcome) (st : StationId),
    let t := (s.endExchange x o).stations[st]
    let u := (s.stationTakes x o).stations[st]
    t.state = u.state ∧ t.score = u.score ∧ t.toggle = u.toggle ∧ t.identity = u.identity ∧
      t.probeFailures = u.probeFailures ∧ t.causeMask = u.causeMask

/-- What a loss does (R90, R24, R108, R91): the station's waiting slots fail, one STATION report names
them with the exchange's slot, and the station leaves every service list with at most one UNREAD report.
Its reports come out of the reservation, its own entry changes in the armed count alone, and every other
slot, station and level stands. -/
def Obligations.LossFailsSlotsAndClearsLists : Prop :=
  ∀ (s : State) (st : StationId) (reason : StationReason) (old : Option StationState)
    (own : Option SlotId),
    s.ready.Nodup → (∀ l : LineId, s.lines[l].serviceList.Nodup) →
    let t := s.loseStation st reason old own
    let fails (i : SlotId) : Prop := s.slots[i].station = stationAddress st ∧
      (s.slots[i].state = .waiting ∨ s.slots[i].state = .ready)
    let failed := allSlots.filter (fun i => decide (fails i))
    let levels := allLines.filter (fun l => decide (st ∈ s.lines[l].serviceList))
    (∀ i, fails i → t.slots[i] = { s.slots[i] with
      state := .failed, outcome := some .stationLost, refusal := none, response := none
      run := s.slots[i].run + 1, codeAgrees := true }) ∧
    (∀ i, ¬ fails i → t.slots[i] = s.slots[i]) ∧
    t.ready = s.ready.filter (fun i => decide (¬ fails i)) ∧
    t.stations[st] = (if failed = [] then s.stations[st] else { s.stations[st] with
      armed := s.stations[st].armed - failed.length, codeAgrees := true }) ∧
    t.reserved = s.reserved - (if levels = [] then 1 else 2) ∧
    (∀ k, k ≠ st → t.stations[k] = s.stations[k]) ∧
    t.reports = s.reports ++ ⟨s.uptime, .station st reason old .lost s.stations[st].score none
        (allSlots.filter (fun i => decide (fails i) || decide (own = some i)))⟩ ::
      (if levels = [] then [] else [⟨s.uptime, .attnUnread st levels none⟩]) ∧
    (∀ l : LineId, t.lines[l] = s.lines[l].dropStation st ∧ st ∉ t.lines[l].serviceList) ∧
    t = { s with
      slots := t.slots, ready := t.ready, stations := t.stations, reports := t.reports
      reserved := t.reserved, lines := t.lines }

/-- What a PROBE's outcome does to its station (R85, R86), in HOLD too (the model's choice, log 35). -/
def Obligations.ProbeEndsMoveTheStation : Prop :=
  ∀ (s : State) (x : Exchange) (st : StationId), s.mode ≠ .loopback → x.kind = .probe →
    x.station = stationAddress st →
    let e := s.stations[st]
    (∀ a b : Byte, s.stationTakes x (.ack [a, b]) = { s with
      stations := s.stations.set st { e with
        state := .good, identity := some (a, b), score := 0, toggle := true, probeFailures := 0
        codeAgrees := true }
      reports := s.reports ++
        [⟨s.uptime, .station st .probe (some e.state) .good 0 (some (a, b)) []⟩]
      reserved := s.reserved - 1 }) ∧
    (∀ o, o = .silent ∨ o = .garbled ∨ o = .echoMismatch ∨ (∃ reason, o = .nak reason) →
      (e.probeFailures = 0 → s.stationTakes x o = { s with
        stations := s.stations.set st { e with probeFailures := 1, codeAgrees := true } }) ∧
      (e.probeFailures = 1 → s.stationTakes x o =
        State.loseStation { s with
          stations := s.stations.set st { e with state := .lost, codeAgrees := true } }
          st .probe (some e.state) none)) ∧
    (∀ o, o = .busy ∨ o = .blocked ∨ o = .abandoned → s.stationTakes x o = s)

/-- ENROLL, WITHDRAW, RESTORE and SET CAUSE MASK (R79 to R82, R108), their checks in order. -/
def Obligations.StationRequestsActOnTheEntry : Prop :=
  (∀ (tag n : Byte) (mask : Half) (s : State), PortFree s → s.mode ≠ .halted → 31 ≤ n.toNat →
    Answered (.enroll tag n mask) tag (.enroll n mask) s .badValue [] (fun t => t) ∧
    Answered (.withdraw tag n) tag (.withdraw n) s .badValue [] (fun t => t) ∧
    Answered (.restore tag n) tag (.restore n) s .badValue [] (fun t => t) ∧
    Answered (.setCauseMask tag n mask) tag (.setCauseMask n mask) s .badValue [] (fun t => t)) ∧
  (∀ (tag : Byte) (st : StationId) (mask : Half) (s : State), PortFree s → s.mode ≠ .halted →
    let e := s.stations[st]
    let enroll (status : Status) (change : State → State) : Prop :=
      Answered (.enroll tag (byte st.val) mask) tag (.enroll (byte st.val) mask) s status [] change
    let withdraw (status : Status) (change : State → State) : Prop :=
      Answered (.withdraw tag (byte st.val)) tag (.withdraw (byte st.val)) s status [] change
    let restore (status : Status) (change : State → State) : Prop :=
      Answered (.restore tag (byte st.val)) tag (.restore (byte st.val)) s status [] change
    let setMask (status : Status) (change : State → State) : Prop :=
      Answered (.setCauseMask tag (byte st.val) mask) tag (.setCauseMask (byte st.val) mask) s status
        [] change
    let flying : Prop := s.dispatcher = .busy ∧
      s.exchange.any (fun x => decide (x.station = stationAddress st))
    ((s.mode = .run ∨ s.mode = .loopback) → enroll .mode (fun t => t)) ∧
    ((s.mode = .configuration ∨ s.mode = .hold) →
      (e.state ≠ .vacant → enroll .enrolled (fun t => t)) ∧
      (e.state = .vacant → enroll .ok (fun t => { t with
        stations := t.stations.set st
          { state := .probing, identity := none, score := 0, toggle := false, causeMask := mask
            lastCause := none, armed := 0, probeFailures := 0, codeAgrees := true } }))) ∧
    (e.state = .vacant → withdraw .stationVacant (fun t => t)) ∧
    (e.state ≠ .vacant → (flying ∨ 0 < e.armed) → withdraw .stationBusy (fun t => t)) ∧
    (e.state ≠ .vacant → ¬ flying → e.armed = 0 → withdraw .ok (fun t => { t with
      stations := t.stations.set st
        { state := .vacant, identity := none, score := 0, toggle := false, causeMask := 0
          lastCause := none, armed := 0, probeFailures := 0, codeAgrees := true }
      lines := mapAll (fun r => r.dropStation st) t.lines })) ∧
    (e.state ≠ .lost → restore .notLost (fun t => t)) ∧
    (e.state = .lost → restore .ok (fun t => { t with
      stations := t.stations.set st
        { e with
          state := .probing, score := 0, probeFailures := 0, toggle := false
          codeAgrees := true } })) ∧
    (e.state = .vacant → setMask .stationVacant (fun t => t)) ∧
    (e.state ≠ .vacant → setMask .ok (fun t => { t with
      stations := t.stations.set st { e with causeMask := mask, codeAgrees := true } }))) ∧
  ∀ (r : Line) (st : StationId),
    (st ∉ r.serviceList → r.dropStation st = r) ∧
    (st ∈ r.serviceList → r.serviceList.erase st = [] → r.dropStation st = { r with
      serviceList := [], rollAttempt := false, readFailures := false
      state := if r.filtered then .pending else .quiet }) ∧
    (st ∈ r.serviceList → r.serviceList.erase st ≠ [] → r.dropStation st = { r with
      serviceList := r.serviceList.erase st
      readFailures := if r.serviceList.head? = some st then false else r.readFailures })

/-! ## Attention -/

/-- SET THRESHOLD, UNMASK, RAISE and SET LOOP ATTENTION (R98, R110, R111, R113). That SET LOOP ATTENTION
judges its values before its mode is read from the order of R113's sentences (log 20). -/
def Obligations.AttentionRequestsActOnTheirLevel : Prop :=
  ∀ (tag : Byte) (s : State), PortFree s → s.mode ≠ .halted →
    (∀ n : Byte, 8 ≤ n.toNat →
      Answered (.setThreshold tag n) tag (.setThreshold n) s .badValue [] (fun t => t)) ∧
    (∀ k : Fin 8,
      Answered (.setThreshold tag (byte k.val)) tag (.setThreshold (byte k.val)) s .ok []
        (fun t => if k < s.threshold then State.softTests { t with threshold := k }
          else { t with threshold := k })) ∧
    (∀ n : Byte, (n.toNat < 4 ∨ 8 ≤ n.toNat) →
      Answered (.unmask tag n) tag (.unmask n) s .badValue [] (fun t => t)) ∧
    (∀ l : LineId,
      (s.lines[l].state = .stuck →
        Answered (.unmask tag (byte (4 + l.val))) tag (.unmask (byte (4 + l.val))) s .ok []
          (fun t => { t with
            lines := t.lines.set l { s.lines[l] with
              rollAttempt := false
              state := if s.lines[l].filtered then .pending else .quiet } })) ∧
      (s.lines[l].state ≠ .stuck →
        Answered (.unmask tag (byte (4 + l.val))) tag (.unmask (byte (4 + l.val))) s .notStuck []
          (fun t => t))) ∧
    (∀ n : Byte, (n.toNat = 0 ∨ 4 ≤ n.toNat) →
      Answered (.raise tag n) tag (.raise n) s .badValue [] (fun t => t)) ∧
    (∀ l : SoftId,
      Answered (.raise tag (byte (1 + l.val))) tag (.raise (byte (1 + l.val))) s .ok []
        (fun t => State.softTest { t with soft := t.soft.set l (t.soft[l] ||| 1) } l)) ∧
    (∀ (n cause : Byte) (set : BitVec 32),
      (n.toNat < 4 ∨ 8 ≤ n.toNat ∨ set.getLsbD 31 = true ∨ 16 ≤ cause.toNat) →
      Answered (.setLoopAttention tag n set cause) tag (.setLoopAttention n set cause) s .badValue []
        (fun t => t)) ∧
    ∀ (l : LineId) (set : StationSet) (cause : Fin 16),
      let request : Request := .setLoopAttention (byte (4 + l.val)) (set.setWidth 32) (byte cause.val)
      (s.mode ≠ .loopback → Answered (commandOf tag request) tag request s .mode [] (fun t => t)) ∧
      (s.mode = .loopback → Answered (commandOf tag request) tag request s .ok [] (fun t => { t with
        lines := t.lines.set l
          (Line.takeLine { s.lines[l] with loopSet := set, loopCause := cause } (set != 0)) }))

/-- The filtered lines (R95, R96, R99, R115): what a change does to the level's record, what the pin's
change and the filter's expiry do, and what a new filter time does to the differences being timed: with a
time of 0 each is taken at once, as by its expiry. That a new time other than 0 takes none at once, and is
judged by the expiry command that comes later, is the model's choice (log 12): R95 takes at once a
difference that has already lasted that long. That the time follows the clock source, so that a time of 0
still holds in DORMANT until the crystal has stopped (R146), is the model's choice (log 29). -/
def Obligations.FilteredLinesDriveTheLevels : Prop :=
  (∀ (r : Line) (v : Bool),
    (r.filtered = v → r.takeLine v = r) ∧
    (r.filtered ≠ v → r.takeLine v = { r with
      filtered := v
      state := if r.state = .quiet ∧ v = true then .pending
        else if r.state = .pending ∧ v = false then .quiet else r.state })) ∧
  (∀ (s : State) (l : LineId) (v : Bool),
    let wakes : Prop := s.mode = .dormant ∧ s.wake = none ∧ v = true ∧ s.lines[l].filtered = false ∧
      s.settings.wakeLevels.getLsbD l.val = true
    (¬ wakes → s.changeLine l v = { s with lines := s.lines.set l (s.lines[l].takeLine v) }) ∧
    (wakes → s.changeLine l v = { s with
      lines := s.lines.set l (s.lines[l].takeLine v)
      wake := some (.attention l)
      crystal := if s.crystal = .off then .starting else s.crystal })) ∧
  (∀ s : State,
    let zero : Prop := s.startUp = .done ∧ s.mode ≠ .halted ∧ s.clockSource = .crystal ∧
      s.settings.filter = .us0
    (¬ zero → s.retimeFilters = s) ∧
    (zero → s.retimeFilters = allLines.foldl (fun t l => afterCommand (.attentionFilterExpiry l) t) s ∧
      ∀ l : LineId, s.retimeFilters.lines[l].pinFilter = s.lines[l].pin)) ∧
  ∀ (s : State) (l : LineId) (a : Bool),
    let r := s.lines[l]
    let atOnce : Prop := s.startUp = .done ∧ s.mode ≠ .halted ∧ s.clockSource = .crystal ∧
      s.settings.filter = .us0
    ((¬ atOnce ∨ a = r.pinFilter) →
      exec (.attentionLineChange l a) s = .next { s with lines := s.lines.set l { r with pin := a } }) ∧
    (atOnce → a ≠ r.pinFilter →
      (s.mode = .loopback → exec (.attentionLineChange l a) s =
        .next { s with lines := s.lines.set l { r with pin := a, pinFilter := a } }) ∧
      (s.mode ≠ .loopback → exec (.attentionLineChange l a) s =
        .next (State.changeLine
          { s with lines := s.lines.set l { r with pin := a, pinFilter := a } } l a))) ∧
    ((s.startUp ≠ .done ∨ s.mode = .halted ∨ r.pin = r.pinFilter) →
      exec (.attentionFilterExpiry l) s = .next s) ∧
    (s.startUp = .done → s.mode ≠ .halted → r.pin ≠ r.pinFilter →
      (s.mode = .loopback → exec (.attentionFilterExpiry l) s =
        .next { s with lines := s.lines.set l { r with pinFilter := r.pin } }) ∧
      (s.mode ≠ .loopback → exec (.attentionFilterExpiry l) s =
        .next (State.changeLine
          { s with lines := s.lines.set l { r with pinFilter := r.pin } } l r.pin)))

/-- The test of R112 on a soft level: with its four conditions the SOFT report is queued and the origins
become empty; otherwise nothing changes. All levels are tested from 3 down to 1. -/
def Obligations.SoftReportsPassTheirGate : Prop :=
  (∀ (s : State) (l : SoftId),
    let passes : Prop := s.soft[l] ≠ 0 ∧ s.threshold.val < 1 + l.val ∧ s.mode ≠ .dormant ∧
      s.mode ≠ .halted ∧ s.exchangeOccupied + s.reserved ≤ 27
    (passes → exec (.softAttentionReport l) s = .next { s with
      reports := s.reports ++ [⟨s.uptime, .attnSoft l s.soft[l]⟩]
      soft := s.soft.set l 0 }) ∧
    (¬ passes → exec (.softAttentionReport l) s = .next s) ∧
    exec (.softAttentionReport l) s = .next (s.softTest l)) ∧
  ∀ s : State, s.softTests = ((s.softTest 2).softTest 1).softTest 0

/-- What a ROLL's outcome does to its level (R102, R103, R104). The identified set of a sequence ended by
its second failed roll is the union of its two words (R103). -/
def Obligations.RollEndsFormTheServiceList : Prop :=
  ∀ (s : State) (x : Exchange) (l : LineId), x.kind = .roll → x.level = some l →
    let r := s.lines[l]
    let ends (set : StationSet) (union : Bool) (t : State) : Prop :=
      ∃ list : List StationId,
        list.Pairwise (fun a b => a < b) ∧
        (∀ st : StationId, st ∈ list ↔ set.getLsbD st.val = true ∧ s.stations[st].state ≠ .vacant ∧
          s.stations[st].state ≠ .lost) ∧
        let record (state : LineState) : Line := { r with
          lastPresence := set, unionUsed := union, rollAttempt := false, readFailures := false
          serviceList := list, state := state }
        (list ≠ [] → t = { s with lines := s.lines.set l (record .serving) }) ∧
        (list = [] → r.filtered = false → t = { s with lines := s.lines.set l (record .quiet) }) ∧
        (list = [] → r.filtered = true → t = { s with
          lines := s.lines.set l (record .stuck)
          reports := s.reports ++ [⟨s.uptime, .attnStuck l set union⟩]
          reserved := s.reserved - 1 })
    (∀ p m : StationSet, ends p false (s.ownerTakes x (.rollResult .consistent p m))) ∧
    (∀ (v : Verdict) (p m : StationSet), v ≠ .consistent →
      (r.rollAttempt = false → s.ownerTakes x (.rollResult v p m) =
        { s with lines := s.lines.set l { r with rollAttempt := true } }) ∧
      (r.rollAttempt = true → ∀ set : StationSet,
        (∀ n : Fin 31, set.getLsbD n.val = (p.getLsbD n.val || m.getLsbD (30 - n.val))) →
        ends set true (s.ownerTakes x (.rollResult v p m)))) ∧
    ∀ o, o = .blocked ∨ o = .abandoned → s.ownerTakes x o = s

/-- What a CAUSE's outcome does to its level (R105, R106, R107, R109): the head is removed on an answer or
a second failed read, kept otherwise; a station no longer at the head is left alone. -/
def Obligations.CauseEndsServeTheHead : Prop :=
  ∀ (s : State) (x : Exchange) (l : LineId) (st : StationId), x.kind = .cause → x.level = some l →
    x.station = stationAddress st →
    let r := s.lines[l]
    (∀ o, r.serviceList.head? ≠ some st → s.ownerTakes x o = s) ∧
    ∀ rest : List StationId, r.serviceList = st :: rest →
      let removed : Line := if rest = [] then { r with
          serviceList := [], rollAttempt := false, readFailures := false
          state := if r.filtered then .pending else .quiet }
        else { r with serviceList := rest, readFailures := false }
      let done : State := { s with lines := s.lines.set l removed }
      (∀ (c : Fin 16) (detail : List Byte),
        let told : State := if s.mode = .loopback then done else { done with
          stations := s.stations.set st
            { s.stations[st] with lastCause := some c, codeAgrees := true } }
        s.ownerTakes x (.ack (byte c.val :: detail)) =
          if s.stations[st].causeMask.getLsbD c.val then { told with
            reports := s.reports ++ [⟨s.uptime, .attnCause l st c detail⟩]
            reserved := s.reserved - 1 }
          else told) ∧
      (∀ reason, s.ownerTakes x (.nak reason) = done) ∧
      (∀ o, o = .busy ∨ o = .silent ∨ o = .garbled ∨ o = .echoMismatch →
        (r.readFailures = false → s.ownerTakes x o =
          { s with lines := s.lines.set l { r with readFailures := true } }) ∧
        (r.readFailures = true → s.ownerTakes x o = { done with
          reports := s.reports ++ [⟨s.uptime, .attnUnread st [l] (some o)⟩]
          reserved := s.reserved - 1 })) ∧
      ∀ o, o = .blocked ∨ o = .abandoned → s.ownerTakes x o = s

/-! ## Timers -/

/-- SET TIMER and READ TIMERS with clear tallies (R127, R128, R131). Where the record's own tick waits to
be taken as an underflow, SET TIMER comes first and the tick finds the new record, where the divider's
tick was also one of the new source (R120, R129; log 11). -/
def Obligations.TimerRequestsWriteTheirRecords : Prop :=
  ∀ (tag : Byte) (s : State), PortFree s → s.mode ≠ .halted →
    (∀ (n source soft flags : Byte) (reload : Half),
      (8 ≤ n.toNat ∨ 5 ≤ source.toNat ∨ (source = 4 ∧ n = 0) ∨ reload = 0 ∨ 4095 < reload.toNat ∨
        4 ≤ soft.toNat ∨ 8 ≤ flags.toNat) →
      Answered (.setTimer tag n source reload soft flags) tag (.setTimer n source reload soft flags) s
        .badValue [] (fun t => t)) ∧
    (∀ (n : TimerId) (source : TimerSource) (reload : Half) (soft : Fin 4)
      (enabled oneShot wakeEnable : Bool),
      ¬ (source = .cascade ∧ n = 0) → reload ≠ 0 → reload.toNat ≤ 4095 →
      let request : Request := .setTimer (byte n.val) source.code reload (byte soft.val)
        (flagBit enabled 0 ||| flagBit oneShot 1 ||| flagBit wakeEnable 2)
      let record : Timer :=
        { enabled := enabled, source := source, reload := reload.toNat, count := reload.toNat
          oneShot := oneShot, tally := 0, softLevel := soft, wakeEnable := wakeEnable, due := false }
      (s.timers[n].due = false →
        Answered (commandOf tag request) tag request s .ok [] (fun t => { t with
          timers := t.timers.set n record })) ∧
      let old := s.timers[n].source
      let gave : Prop :=
        ((old = .base10us ∨ old = .base100us) ∧
          (source = .base10us ∨ (source = .base100us ∧ s.fineDivider = 0))) ∨
        ((old = .base1ms ∨ old = .base10ms) ∧
          (source = .base1ms ∨ (source = .base10ms ∧ s.uptime.toNat % 10 = 0)))
      (s.timers[n].due = true → ¬ gave →
        Answered (commandOf tag request) tag request s .ok [] (fun t => { t with
          timers := t.timers.set n record })) ∧
      (s.timers[n].due = true → gave →
        Answered (commandOf tag request) tag request s .ok [] (fun t => { t with
          timers := t.timers.set n
            (if enabled = false then record
             else if reload = 1 then { record with due := true }
             else { record with count := reload.toNat - 1 }) }))) ∧
    Answered (.readTimers tag 1) tag (.readTimers 1) s .ok s.timersBody (fun t => { t with
      timers := mapAll (fun r : Timer => { r with tally := 0 }) t.timers }) ∧
    ∀ n : Byte, 2 ≤ n.toNat →
      Answered (.readTimers tag n) tag (.readTimers n) s .badValue [] (fun t => t)

/-- A tick of a divider (R120, R121, R122, R142, R159): each enabled timer of a base that ticks counts
down, and at count 1 its underflow falls due; the millisecond divider advances the uptime and the
host-silence timer. What earlier ticks have left due is taken first: the underflows in ascending timer
number, then the expiry of the host-silence timer (the model's choice, logs 8, 10). -/
def Obligations.TicksReachTheirTimers : Prop :=
  (∀ s : State,
    s.catchUp = afterCommand .hostSilenceExpiry
      (allTimers.foldl (fun t n => afterCommand (.timerUnderflow n) t) s) ∧
    (∀ n : TimerId, s.catchUp.timers[n].due = false) ∧
    (s.catchUp.mode = .run → s.catchUp.silence ≠ some 0)) ∧
  ∀ s : State,
    let ticked (sources : List TimerSource) (r : Timer) : Timer :=
      if r.enabled = true ∧ r.source ∈ sources then
        (if 1 < r.count then { r with count := r.count - 1 } else { r with due := true })
      else r
    let settled : Prop := (∀ n : TimerId, s.timers[n].due = false) ∧
      (s.mode ≠ .run ∨ s.silence ≠ some 0)
    let fineRuns : Prop :=
      s.startUp ≠ .inReset ∧ s.mode ≠ .halted ∧ s.clockSource = .crystal
    (¬ fineRuns → exec (.timeBaseTick .fine) s = .next s) ∧
    (fineRuns → settled → exec (.timeBaseTick .fine) s = .next { s with
      fineDivider := s.fineDivider + 1
      timers := mapAll
        (ticked (if s.fineDivider = 9 then [.base10us, .base100us] else [.base10us])) s.timers }) ∧
    (fineRuns → exec (.timeBaseTick .fine) s = exec (.timeBaseTick .fine) s.catchUp) ∧
    (s.startUp = .inReset → exec (.timeBaseTick .millisecond) s = .next s) ∧
    (s.startUp ≠ .inReset → s.mode = .halted →
      exec (.timeBaseTick .millisecond) s = .next { s with uptime := s.uptime + 1 }) ∧
    (s.startUp ≠ .inReset → s.mode ≠ .halted → settled →
      exec (.timeBaseTick .millisecond) s = .next { s with
        uptime := s.uptime + 1
        timers := mapAll (ticked (if (s.uptime + 1).toNat % 10 = 0 then [.base1ms, .base10ms]
          else [.base1ms])) s.timers
        silence := s.silence.map (fun k => k - 1) }) ∧
    (s.startUp ≠ .inReset → s.mode ≠ .halted →
      exec (.timeBaseTick .millisecond) s = exec (.timeBaseTick .millisecond) s.catchUp)

/-- An underflow (R123, R124, R125, R13, R111, R148): the timer's record, the slots it releases, the origin
it adds, the wake it tells, and the cascade tick of the timer above, taken with it. That TIMER_UNDERFLOW
acts exactly where a tick has left an underflow due is the model's choice (logs 3, 8). -/
def Obligations.UnderflowsAreHandedOutWithTheirChain : Prop :=
  (∀ (s : State) (n : TimerId),
    (s.timers[n].due = true → exec (.timerUnderflow n) s = .next (s.takeUnderflow n)) ∧
    (s.timers[n].due = false → exec (.timerUnderflow n) s = .next s)) ∧
  (∀ (s : State) (n : TimerId),
    let t := s.handOut n
    (∀ m : TimerId, m.val = n.val + 1 → s.timers[m].source = .cascade → s.timers[m].enabled = true →
      (1 < s.timers[m].count → s.takeUnderflow n = { t with
        timers := t.timers.set m { s.timers[m] with count := s.timers[m].count - 1 } }) ∧
      (s.timers[m].count ≤ 1 → s.takeUnderflow n = t.takeUnderflow m)) ∧
    ((∀ m : TimerId, m.val = n.val + 1 →
        ¬ (s.timers[m].source = .cascade ∧ s.timers[m].enabled = true)) →
      s.takeUnderflow n = t)) ∧
  ∀ (s : State) (n : TimerId),
    let r := s.timers[n]
    let t := s.handOut n
    let bound (i : SlotId) : Prop := s.mode ≠ .dormant ∧ s.slots[i].trigger = some n
    let released := allSlots.filter (fun i => decide (bound i ∧ s.slots[i].state = .waiting))
    let bit : Origins := (1 : Origins) <<< (n.val + 1)
    let wakes : Prop := s.mode = .dormant ∧ s.wake = none ∧ r.wakeEnable = true
    t.timers = s.timers.set n { r with
      enabled := if r.oneShot then false else true
      count := if r.oneShot then 0 else r.reload
      tally := if r.tally < 15 then r.tally + 1 else 15
      due := false } ∧
    (∀ i : SlotId,
      (bound i → s.slots[i].state = .waiting →
        t.slots[i] = { s.slots[i] with state := .ready, attempts := 0, codeAgrees := true }) ∧
      (bound i → (s.slots[i].state = .ready ∨ s.slots[i].state = .active) →
        s.slots[i].repeating = true →
        t.slots[i] = { s.slots[i] with
          late := if s.slots[i].late < 255 then s.slots[i].late + 1 else 255, codeAgrees := true }) ∧
      ((¬ bound i ∨ s.slots[i].state.armed = false ∨
          (s.slots[i].state ≠ .waiting ∧ s.slots[i].repeating = false)) →
        t.slots[i] = s.slots[i])) ∧
    t.ready = released.foldl (fun q i =>
      q.takeWhile (fun j => decide (s.slots[i].priority ≤ s.slots[j].priority)) ++
        i :: q.dropWhile (fun j => decide (s.slots[i].priority ≤ s.slots[j].priority))) s.ready ∧
    (r.softLevel = 0 → t.soft = s.soft ∧ t.reports = s.reports) ∧
    (∀ l : SoftId, r.softLevel.val = l.val + 1 →
      let passes : Prop := s.threshold.val < 1 + l.val ∧ s.mode ≠ .dormant ∧ s.mode ≠ .halted ∧
        s.exchangeOccupied + s.reserved ≤ 27
      (passes → t.soft = s.soft.set l 0 ∧
        t.reports = s.reports ++ [⟨s.uptime, .attnSoft l (s.soft[l] ||| bit)⟩]) ∧
      (¬ passes → t.soft = s.soft.set l (s.soft[l] ||| bit) ∧ t.reports = s.reports)) ∧
    (wakes → t.wake = some (.timer n) ∧
      t.crystal = if s.crystal = .off then .starting else s.crystal) ∧
    (¬ wakes → t.wake = s.wake ∧ t.crystal = s.crystal) ∧
    t = { s with
      timers := t.timers, slots := t.slots, ready := t.ready, soft := t.soft, reports := t.reports
      wake := t.wake, crystal := t.crystal }

/-! ## Modes -/

/-- The checks of SET MODE in order, and whether a request that passes them is carried out at once or
recorded (R137, R138, R145, R146). -/
def Obligations.SetModeIsJudgedInOrder : Prop :=
  ∀ (tag : Byte) (s : State), PortFree s → s.mode ≠ .halted →
    (∀ b : Byte, 5 ≤ b.toNat →
      Answered (.setMode tag b) tag (.setMode b) s .badValue [] (fun t => t)) ∧
    ∀ m : Mode, m ≠ .halted →
      let replies (status : Status) (change : State → State) : Prop :=
        Answered (.setMode tag m.code) tag (.setMode m.code) s status [] change
      let quiet : Prop := (s.dispatcher = .idle ∨ s.dispatcher = .stopped) ∧
        (∀ i : SlotId, s.slots[i].state ≠ .ready ∧ s.slots[i].state ≠ .active) ∧
        (∀ l : LineId, s.threshold.val < 4 + l.val →
          s.lines[l].state = .quiet ∨ s.lines[l].state = .stuck) ∧
        (∀ l : SoftId, s.soft[l] = 0) ∧ s.reports = [] ∧
        (∀ f, s.fault = some f → f.retained = true)
      let waits : Prop := s.dispatcher = .busy ∧
        (m = .configuration ∨ m = .loopback ∨ s.mode = .loopback)
      (m = s.mode → replies .badValue (fun t => t)) ∧
      (m ≠ s.mode →
        (s.requested ≠ none → replies .modePending (fun t => t)) ∧
        (s.requested = none →
          (2 < s.systemOccupied → replies .reportsFull (fun t => t)) ∧
          (s.systemOccupied ≤ 2 →
            (m = .dormant →
              (s.mode = .loopback → replies .mode (fun t => t)) ∧
              (s.mode ≠ .loopback → ¬ quiet → replies .pending (fun t => t)) ∧
              (s.mode ≠ .loopback → quiet → replies .ok (fun t => { t with
                mode := .dormant, dispatcher := .stopped, silence := none, lde := false
                linkFrame := none }))) ∧
            (m ≠ .dormant →
              (waits → replies .ok (fun t => { t with requested := some m })) ∧
              (¬ waits → replies .ok (fun t => t.changeMode m .request))))))

/-- A change among CONFIGURATION, RUN, HOLD and LOOPBACK is one step (R139, R28, R25, R114, R96, R113,
R141, R93); HOST_SILENCE_EXPIRY is such a change from RUN to HOLD (R143). That it acts exactly where the
count stands at 0 in RUN, and otherwise has no effect, is the model's reading (logs 3, 10). -/
def Obligations.ModeChangesTakeTheirSteps : Prop :=
  (∀ (s : State) (m : Mode) (cause : ModeCause),
    m ≠ .dormant → m ≠ .halted → s.mode ≠ .dormant → s.mode ≠ .halted → s.mode ≠ m →
    let t := s.changeMode m cause
    let cleared (r : Line) : Line :=
      if m = .configuration ∧ (r.state = .roll ∨ r.state = .serving) then { r with
        serviceList := [], rollAttempt := false, readFailures := false
        state := if r.filtered then .pending else .quiet }
      else r
    t.mode = m ∧ t.requested = none ∧
    t.silence = (if m = .run ∧ s.settings.hostTimeout ≠ 0 then some (10 * s.settings.hostTimeout)
      else none) ∧
    t.dispatcher = (if s.dispatcher = .busy then .busy
      else if m = .run ∨ m = .loopback then
        (if s.mode = .run ∨ s.mode = .loopback then s.dispatcher
          else if s.dispatcher = .stopped then .idle else s.dispatcher)
      else .stopped) ∧
    t.reports = s.reports ++ [⟨s.uptime, .mode s.mode m cause none⟩] ∧
    (m ≠ .configuration → t.slots = s.slots ∧ t.ready = s.ready ∧ t.stations = s.stations) ∧
    (m = .configuration → t.ready = [] ∧
      (∀ i : SlotId, t.slots[i] =
        if s.slots[i].state = .waiting ∨ s.slots[i].state = .ready then
          { s.slots[i] with state := .loaded, codeAgrees := true }
        else s.slots[i]) ∧
      ∀ st : StationId,
        let disarmed := allSlots.filter (fun i => s.slots[i].state.waits &&
          decide (s.slots[i].station = stationAddress st))
        t.stations[st] = (if disarmed = [] then s.stations[st] else { s.stations[st] with
          armed := s.stations[st].armed - disarmed.length, codeAgrees := true })) ∧
    (∀ l : LineId, t.lines[l] =
      if s.mode = .loopback then
        Line.takeLine { cleared s.lines[l] with loopSet := 0, loopCause := 0 } s.lines[l].pinFilter
      else if m = .loopback then (cleared s.lines[l]).takeLine false
      else cleared s.lines[l]) ∧
    t = { s with
      mode := t.mode, requested := t.requested, silence := t.silence, dispatcher := t.dispatcher
      reports := t.reports, slots := t.slots, ready := t.ready, stations := t.stations
      lines := t.lines }) ∧
  ∀ s : State,
    (s.mode = .run → s.silence = some 0 → exec .hostSilenceExpiry s = .next { s with
      mode := .hold, requested := none, silence := none
      dispatcher := if s.dispatcher = .busy then .busy else .stopped
      reports := s.reports ++ [⟨s.uptime, .mode .run .hold .hostSilent none⟩] }) ∧
    ((s.mode ≠ .run ∨ s.silence ≠ some 0) → exec .hostSilenceExpiry s = .next s)

/-- Waking from DORMANT (R146, R148, R149, R150, R174). The clock source's change retimes the filters, as the
statement of the filtered lines says (R95, log 12). -/
def Obligations.DormancyEndsInHold : Prop :=
  ∀ s : State, s.mode = .dormant →
    let woken (w : WakeSource) (t : State) : State := State.softTests { t with
      mode := .hold
      wake := none
      reports := t.reports ++ [⟨t.uptime, .mode .dormant .hold .wake (some w)⟩] }
    let returned (t : State) : State := State.retimeFilters { t with
      clockSource := .crystal, crystal := .stable, monitorRunning := true, intake := .search }
    (s.wake = none → exec .rxdActivity s = .next { s with
      wake := some .host
      crystal := if s.crystal = .off then .starting else s.crystal }) ∧
    (s.wake ≠ none → exec .rxdActivity s = .next s) ∧
    (s.wake = none → s.crystal = .stable → ∀ r : Reply, s.reply = some r → r.isReset = false →
      let stopped : State := { s with
        reply := none, holding := s.holding.tail
        crystal := .off, clockSource := .lowSpeed, monitorRunning := false }
      exec .dormantCrystalStop s = .next stopped ∧ exec .replyEnd s = .next stopped) ∧
    ∀ w : WakeSource, s.wake = some w →
      (s.crystal = .starting → exec .wakeComplete s = .next (woken w (returned s))) ∧
      (s.crystal = .stable → s.reply = none →
        exec .wakeComplete s = .next (woken w (returned s))) ∧
      (s.crystal = .stable → ∀ r : Reply, s.reply = some r → r.isReset = false →
        exec .replyEnd s = .next (woken w (returned
          { s with reply := none, holding := s.holding.tail }))) ∧
      (s.crystal = .starting → (∀ f, s.fault = some f → f.retained = true) →
        exec .wakeCrystalTimeout s = .next (woken w { s with
          fault := some { kind := .crystalLost, stamp := s.uptime, mode := .dormant
                          dispatcher := .stopped, exchangeKind := none, slot := none, station := none
                          level := none, retained := false, second := none } }))

/-! ## Clocks and resets -/

/-- The crystal's loss and its return (R154, R155, R146, R158, R164, R174). A look that comes after a loss
changes nothing and a frame that comes after it is discarded: the events of the loss's own moment are the
commands behind the loss (R165, R167; logs 36, 37). Such a command is the loss alone where there was nothing
to take, the codes agree, the loss halts the part, or the port was not free, and with no loss found it is
the command alone. A return retimes the filters, as the statement of the filtered lines says
(R95, log 12). -/
def Obligations.CrystalEventsMoveTheClock : Prop :=
  ∀ s : State,
    let cut : State := { s with
      intake := .search, holding := [], overrun := none, reply := none
      clockSource := .lowSpeed, monitorRunning := false }
    let found : FaultRecord :=
      { kind := .crystalLost, stamp := s.uptime, mode := s.mode, dispatcher := s.dispatcher
        exchangeKind := s.exchange.map Exchange.kind, slot := s.exchange.bind Exchange.slot
        station := s.exchange.map Exchange.station, level := s.exchange.bind Exchange.level
        retained := false, second := none }
    let starts : State := { cut with crystal := .starting }
    let returned (t : State) : State := State.retimeFilters { t with
      clockSource := .crystal, crystal := .stable, monitorRunning := true, intake := .search }
    (s.monitorRunning = false → exec .crystalLoss s = .next s ∧
      (∀ tag : Byte, exec (.clearFault (.behindLoss tag)) s = exec (.clearFault (.alone tag)) s) ∧
      ∀ (active : Bool) (u : Upset),
        exec (.takeCandidate active (.behindLoss u)) s = exec (.takeCandidate active (.alone u)) s) ∧
    (s.monitorRunning = true → ∀ t : State, exec .crystalLoss s = .next t →
      (∀ (active : Bool) (u : Upset), exec (.takeCandidate active (.alone u)) t = .next t ∧
        ((s.canStart = false ∨ s.candidate = none) →
          exec (.takeCandidate active (.behindLoss u)) s = .next t) ∧
        (∀ x : Exchange, s.exchange = none → s.candidate = some x →
          (∀ i : SlotId, x.slot = some i → s.slots[i].codeAgrees = true) →
          (∀ st : StationId, x.station = stationAddress st → s.stations[st].codeAgrees = true) →
          exec (.takeCandidate active (.behindLoss .none)) s = .next t) ∧
        ∀ f : FaultRecord, s.canStart = true → s.exchange = none → s.fault = some f →
          f.retained = false → f.second = none →
          exec (.takeCandidate active (.behindLoss u)) s = .next t) ∧
      (∀ (tag : Byte) (r : Request), exec (commandOf tag r) t = .next t) ∧
      (¬ PortFree s → ∀ tag : Byte, exec (.clearFault (.behindLoss tag)) s = .next t)) ∧
    (s.monitorRunning = true → s.mode = .dormant → exec .crystalLoss s = .next { cut with
      crystal := if s.wake.isSome then .starting else .off }) ∧
    (s.monitorRunning = true → s.mode ≠ .dormant →
      (s.dispatcher ≠ .busy → s.fault.all FaultRecord.retained →
        (s.mode = .configuration ∨ s.mode = .hold) →
        exec .crystalLoss s = .next { starts with fault := some found }) ∧
      (s.dispatcher ≠ .busy → s.fault.all FaultRecord.retained →
        (s.mode = .run ∨ s.mode = .loopback) →
        exec .crystalLoss s =
          .next (State.changeMode { starts with fault := some found } .hold .clock)) ∧
      (∀ x : Exchange, s.dispatcher = .busy → s.exchange = some x →
        s.fault.all FaultRecord.retained →
        (starts.endExchange x .abandoned).mode = .run ∨
          (starts.endExchange x .abandoned).mode = .loopback →
        exec .crystalLoss s = .next (State.changeMode
          { starts.endExchange x .abandoned with fault := some found } .hold .clock)) ∧
      (∀ x : Exchange, s.dispatcher = .busy → s.exchange = some x →
        s.fault.all FaultRecord.retained →
        (starts.endExchange x .abandoned).mode = .configuration ∨
          (starts.endExchange x .abandoned).mode = .hold →
        exec .crystalLoss s =
          .next { starts.endExchange x .abandoned with fault := some found }) ∧
      (∀ (x : Exchange) (f : FaultRecord), s.dispatcher = .busy → s.exchange = some x →
        s.fault = some f → f.retained = false → f.second = none →
        exec .crystalLoss s = .next { starts.endExchange x .abandoned with
          mode := .halted, requested := none, silence := none, dispatcher := .stopped
          lde := false, linkFrame := none
          timers := mapAll (fun r : Timer => { r with due := false })
            (starts.endExchange x .abandoned).timers
          fault := some { f with second := some .crystalLost } }) ∧
      (∀ f : FaultRecord, s.dispatcher ≠ .busy → s.exchange = none → s.fault = some f →
        f.retained = false →
        (f.second = none → exec .crystalLoss s = .next { starts with
          mode := .halted, requested := none, silence := none, dispatcher := .stopped
          lde := false, linkFrame := none
          timers := mapAll (fun r : Timer => { r with due := false }) s.timers
          fault := some { f with second := some .crystalLost } }) ∧
        (f.second ≠ none → s.mode = .halted → exec .crystalLoss s = .next starts))) ∧
    (s.crystal = .starting → s.mode ≠ .dormant → s.startUp = .done →
      exec .crystalStable s = .next (returned s)) ∧
    (s.startUp = .waiting →
      exec .startupCrystalStable s = .next (returned { s with startUp := .done }) ∧
      (s.fault.all FaultRecord.retained → exec .crystalStartTimeout s = .next { s with
        startUp := .done
        fault := some { kind := .crystalLost, stamp := s.uptime, mode := .configuration
                        dispatcher := .stopped, exchangeKind := none, slot := none, station := none
                        level := none, retained := false, second := none } }))

/-- The three resets and their ends (R156, R157, R158, R168). What a reset writes is `State.reset`, whose
tables are stated by another claim; the pins, the conditions that hold the reset, the strap sample and
the sender's queue are not the reset's to write. -/
def Obligations.ResetsBeginAndEnd : Prop :=
  ∀ s : State,
    let begun (cause : ResetCause) (fault : Option FaultRecord) (supplyFlag : Bool) : State :=
      { State.reset with
        pending := s.pending
        lines := mapAll (fun r : Line => { Line.reset with pin := r.pin }) s.lines
        fault := fault
        freeCount := s.freeCount
        crystal := .off
        lastCause := cause
        supplyFlag := supplyFlag
        startUp := .inReset
        supply := s.supply
        resetPin := s.resetPin
        pinResetHeld := s.pinResetHeld
        rate1Pin := s.rate1Pin
        rate0Pin := s.rate0Pin
        portRate := s.portRate }
    let kept : Option FaultRecord := s.fault.map (fun f => { f with retained := true })
    let ended (t : State) : State := { t with
      startUp := .waiting
      crystal := .starting
      portRate := if s.rate1Pin then (if s.rate0Pin then .r921600 else .r460800)
        else (if s.rate0Pin then .r230400 else .r115200) }
    (s.supply ≠ .below →
      exec .powerReset s = .next { begun .power none true with supply := .below }) ∧
    (s.supply = .below →
      exec .supplyRisesAboveTripLevel s = .next { s with supply := .delay }) ∧
    (s.supply = .delay → s.startUp = .inReset →
      (s.pinResetHeld = false →
        exec .powerResetDelayExpiry s = .next (ended { s with supply := .good })) ∧
      (s.pinResetHeld = true →
        exec .powerResetDelayExpiry s = .next { s with supply := .good })) ∧
    exec .resetPinAsserted s = .next { s with resetPin := true } ∧
    (s.resetPin = true → s.pinResetHeld = false →
      exec .pinReset s = .next { begun .pin kept s.supplyFlag with pinResetHeld := true }) ∧
    (s.pinResetHeld = false → exec .resetPinNegated s = .next { s with resetPin := false }) ∧
    (s.pinResetHeld = true → s.startUp = .inReset →
      (s.supply = .good → exec .resetPinNegated s =
        .next (ended { s with resetPin := false, pinResetHeld := false })) ∧
      (s.supply ≠ .good → exec .resetPinNegated s =
        .next { s with resetPin := false, pinResetHeld := false })) ∧
    ∀ r : Reply, s.reply = some r → r.kind = 0xE0 → r.status = .ok → s.supply = .good →
      s.pinResetHeld = false →
      exec .commandReset s = .next (ended (begun .command kept s.supplyFlag)) ∧
      exec .replyEnd s = .next (ended (begun .command kept s.supplyFlag))

/-- The values every reset gives the tables and the blocks (R27, R29, R94, R118, R135, R136, R157, R168,
R172, TABLE 8-1, TABLE 10-4), and that they satisfy every relation of Safety.lean. That the state right
after reset is the end of a POWER reset, start-up waiting for the crystal, is the model's reading (log 15). -/
def Obligations.ResetValuesAreTheStatedOnes : Prop :=
  let s := State.reset
  (∀ i : SlotId, s.slots[i] =
    { state := .empty, station := 0, command := .write, payload := [], priority := 0, retryLimit := 0
      trigger := none, repeating := false, failuresOnly := false, attempts := 0, outcome := none
      refusal := none, response := none, late := 0, run := 0, abortPending := false
      abortTooLate := false, codeAgrees := true }) ∧
  s.ready = [] ∧
  s.dispatcher = .stopped ∧ s.exchange = none ∧ s.stepEnable = false ∧ s.reserved = 0 ∧
  s.lde = false ∧ s.linkFrame = none ∧ s.loopAnswer = none ∧
  (∀ st : StationId, s.stations[st] =
    { state := .vacant, identity := none, score := 0, toggle := false, causeMask := 0
      lastCause := none, armed := 0, probeFailures := 0, codeAgrees := true }) ∧
  s.threshold = 7 ∧
  (∀ l : LineId, s.lines[l].state = .quiet ∧ s.lines[l].filtered = false ∧
    s.lines[l].rollAttempt = false ∧ s.lines[l].serviceList = [] ∧
    s.lines[l].readFailures = false ∧ s.lines[l].lastPresence = 0 ∧ s.lines[l].unionUsed = false ∧
    s.lines[l].loopSet = 0 ∧ s.lines[l].loopCause = 0 ∧ s.wakeEnable l = false) ∧
  (∀ l : SoftId, s.soft[l] = 0) ∧
  (∀ n : TimerId, s.timers[n] =
    { enabled := false, source := .base1ms, reload := 1, count := 0, oneShot := false, tally := 0
      softLevel := 0, wakeEnable := false, due := false }) ∧
  s.mode = .configuration ∧ s.requested = none ∧ s.wake = none ∧ s.silence = none ∧
  s.clockSource = .lowSpeed ∧ s.monitorRunning = false ∧ s.uptime = 0 ∧
  s.crystal = .starting ∧ s.startUp = .waiting ∧ s.supply = .good ∧ s.pinResetHeld = false ∧
  s.fineDivider = 0 ∧ s.reply = none ∧ s.attn = false ∧
  s.lastCause = .power ∧ s.supplyFlag = true ∧
  s.reports = [] ∧ s.fault = none ∧ s.overrun = none ∧ s.holding = [] ∧ s.intake = .search ∧
  s.settings = { linkRate := .kbit500, replyWindow := 20, broadcastGap := 5, filter := .us16
                 hostTimeout := 0, wakeLevels := 0 } ∧
  Lawful s

/-! ## Requests of the report unit, the reset record and the settings -/

/-- FETCH, CLEAR FAULT, CLEAR CAUSE and RESET (R162, R167, R157, R156), and ATTN#, which is asserted
exactly while the report queue is non-empty or the fault record is occupied (R163). A CLEAR FAULT together
with a crystal loss that is taken first empties the record that the loss has filled, or is refused in
HALTED, with no reply (R174); that it is taken at all then is the model's choice between R167 and R174
(log 37). A FETCH reply holds the
records of the reports taken from the front of the queue, which is the oldest, one after the other; the
free values in them are some values, of which nothing is said (log 18). -/
def Obligations.ReportAndResetRequestsAreAnswered : Prop :=
  (∀ (base : Nat) (out : List Report), recordsFrom base out =
    (out.mapIdx (fun k r => r.record (Config.stationFiller (base + k)))).flatten) ∧
  (∀ s : State, s.attn = true ↔ s.reports ≠ [] ∨ s.fault ≠ none) ∧
  ∀ (tag : Byte) (s : State), PortFree s →
    (∀ n : Byte, (n = 0 ∨ 4 < n.toNat) →
      Answered (.fetch tag n) tag (.fetch n) s .badValue [] (fun t => t)) ∧
    (∀ n : Byte, n ≠ 0 → n.toNat ≤ 4 →
      let out := s.reports.take n.toNat
      (out = [] → ∃ k, Answered (.fetch tag n) tag (.fetch n) s .ok [0]
        (fun t => { t with freeCount := k })) ∧
      (out ≠ [] → ∃ k base, Answered (.fetch tag n) tag (.fetch n) s .ok
        (byte out.length :: recordsFrom base out)
        (fun t => State.softTests { t with
          reports := s.reports.drop n.toNat, freeCount := k }))) ∧
    Answered (.reset tag) tag .reset s .ok [] (fun t => t) ∧
    (s.mode ≠ .halted →
      Answered (.clearFault (.alone tag)) tag .clearFault s .ok [] (fun t => { t with fault := none }) ∧
      Answered (.clearCause tag) tag .clearCause s .ok [] (fun t => { t with supplyFlag := false })) ∧
    ∀ t : State, s.monitorRunning = true → exec .crystalLoss s = .next t →
      exec (.clearFault (.behindLoss tag)) s =
        .next (if t.mode = .halted then t else { t with fault := none })

/-- WRITE SETTINGS (R175, R179): mask, values and mode are judged in that order, and a request that passes
writes every named field and no other. A new filter time retimes the filters, as the statement of the
filtered lines says (R95, log 12). -/
def Obligations.WriteSettingsWritesTheNamedFields : Prop :=
  ∀ (tag mask : Byte) (values : List Byte) (s : State), PortFree s → s.mode ≠ .halted →
    values.length = (List.range 6).countP (fun k => mask.getLsbD k) →
    let named (k : Nat) : Prop := mask.getLsbD k = true
    let value (k : Nat) : Byte :=
      values.getD ((List.range k).countP (fun j => mask.getLsbD j)) 0
    let fit : Prop := (named 0 → (value 0).toNat < 4) ∧
      (named 1 → 2 ≤ (value 1).toNat ∧ (value 1).toNat ≤ 200) ∧
      (named 2 → 1 ≤ (value 2).toNat ∧ (value 2).toNat ≤ 50) ∧
      (named 3 → (value 3).toNat < 4) ∧ (named 5 → (value 5).toNat % 16 = 0)
    let restricted : Prop := named 0 ∨ named 1 ∨ named 2
    let replies (status : Status) (change : State → State) : Prop :=
      Answered (.writeSettings tag mask values) tag (.writeSettings mask values) s status [] change
    let new : Settings :=
      { linkRate := if named 0 then
          [LinkRate.kbit250, .kbit500, .mbit1, .mbit2].getD (value 0).toNat .kbit250
          else s.settings.linkRate
        replyWindow := if named 1 then (value 1).toNat else s.settings.replyWindow
        broadcastGap := if named 2 then (value 2).toNat else s.settings.broadcastGap
        filter := if named 3 then
          [FilterTime.us0, .us4, .us16, .us64].getD (value 3).toNat .us0 else s.settings.filter
        hostTimeout := if named 4 then (value 4).toNat else s.settings.hostTimeout
        wakeLevels := if named 5 then (value 5).extractLsb' 4 4 else s.settings.wakeLevels }
    ((mask = 0 ∨ 64 ≤ mask.toNat ∨ ¬ fit) → replies .badValue (fun t => t)) ∧
    (mask ≠ 0 → mask.toNat < 64 → fit →
      (restricted → s.mode ≠ .configuration → replies .mode (fun t => t)) ∧
      ((¬ restricted ∨ s.mode = .configuration) →
        replies .ok (fun t =>
          let u : State := { t with
            settings := new
            silence := if named 4 ∧ s.mode = .run then
              (if new.hostTimeout = 0 then none else some (10 * new.hostTimeout)) else t.silence }
          if named 3 then u.retimeFilters else u)))

/-! ## What every step keeps -/

/-- Every step keeps the bounds of the timer records (R119, R123). -/
def Obligations.StepKeepsTimersBounded : Prop :=
  ∀ s t : State, TimersBounded s → step s = .next t → TimersBounded t

/-- Every step keeps the relations of the slot records and the bounds of the fault scores (R1, R89). -/
def Obligations.StepKeepsSlotsAndScores : Prop :=
  ∀ s t : State, SlotsRelated s → StationsScored s → step s = .next t →
    SlotsRelated t ∧ StationsScored t

/-- Every step keeps the dispatcher, the exchange record and the reservation in step (R28, R35, R49). -/
def Obligations.StepKeepsDispatcherLawful : Prop :=
  ∀ s t : State, DispatcherLawful s → step s = .next t → DispatcherLawful t

/-- Every step keeps HALTED tied to a second fault kind (R165). -/
def Obligations.StepKeepsHaltedHoldsSecond : Prop :=
  ∀ s t : State, HaltedHoldsSecond s → step s = .next t → HaltedHoldsSecond t

/-- Every step keeps all the relations together: the laws of the armed slots and counts, of the ready
queue, the service lists, the report classes and the fault record among them (R3, R4, R36, R78, R97, R160,
R161, R165). -/
def Obligations.StepKeepsEveryRelation : Prop :=
  ∀ s t : State, Lawful s → step s = .next t → Lawful t
end

