-- ==== Sys2Proof/Laws/Bodies.lean ====
section
/-! SUPPORT. What each reader of a request body takes, said once: the bodies it reads are exactly those that
`Request.body` writes. -/

namespace Sys2Proof.Machine

/-- The byte at the low end of an appended pair. -/
theorem extract_append_low {n : Nat} (hi : BitVec n) (lo : Byte) : (hi ++ lo).extractLsb' 0 8 = lo := by
  rw [BitVec.extractLsb'_append_eq_of_add_le (by decide)]
  simp

/-- A byte above the low end of an appended pair is a byte of the high part. -/
theorem extract_append_high {n start : Nat} (hi : BitVec n) (lo : Byte) (h : 8 ≤ start) :
    (hi ++ lo).extractLsb' start 8 = hi.extractLsb' (start - 8) 8 :=
  BitVec.extractLsb'_append_eq_of_le h

theorem bytes16_half (lo hi : Byte) : bytes16 (half lo hi) = [lo, hi] := by
  simp [bytes16, loByte, hiByte, half, extract_append_low, extract_append_high]

theorem bytes24_slotSet (a b c : Byte) : bytes24 (slotSet a b c) = [a, b, c] := by
  simp [bytes24, slotSet, extract_append_low, extract_append_high]

theorem bytes32_word32 (a b c d : Byte) : bytes32 (word32 a b c d) = [a, b, c, d] := by
  simp [bytes32, word32, extract_append_low, extract_append_high]

theorem noByte_eq_some (q r : Request) (body : List Byte) :
    noByte q body = some r ↔ body = [] ∧ q = r := by
  cases body <;> simp [noByte]

theorem oneByte_eq_some (f : Byte → Request) (r : Request) (body : List Byte) :
    oneByte f body = some r ↔ ∃ b, body = [b] ∧ f b = r := by
  match body with
  | [] => simp [oneByte]
  | [b] => simp [oneByte]
  | _ :: _ :: _ => simp [oneByte]

theorem byteAndHalf_only (f : Byte → Half → Request) (r : Request) (body : List Byte)
    (h : byteAndHalf f body = some r) : ∃ b w, body = b :: bytes16 w ∧ f b w = r := by
  unfold byteAndHalf at h
  split at h
  · rename_i b lo hi
    exact ⟨b, half lo hi, by rw [bytes16_half], Option.some.inj h⟩
  · cases h

theorem readStart_only (r : Request) (body : List Byte) (h : readStart body = some r) :
    ∃ set, body = bytes24 set ∧ .start set = r := by
  unfold readStart at h
  split at h
  · rename_i a b c
    exact ⟨slotSet a b c, (bytes24_slotSet a b c).symm, Option.some.inj h⟩
  · cases h

theorem readSetLoopAttention_only (r : Request) (body : List Byte)
    (h : readSetLoopAttention body = some r) :
    ∃ l w cause, body = l :: (bytes32 w ++ [cause]) ∧ .setLoopAttention l w cause = r := by
  unfold readSetLoopAttention at h
  split at h
  · rename_i l a b c d cause
    exact ⟨l, word32 a b c d, cause, by rw [bytes32_word32]; rfl, Option.some.inj h⟩
  · cases h

theorem readSetTimer_only (r : Request) (body : List Byte) (h : readSetTimer body = some r) :
    ∃ n src w soft flags, body = [n, src] ++ bytes16 w ++ [soft, flags] ∧
      .setTimer n src w soft flags = r := by
  unfold readSetTimer at h
  split at h
  · rename_i n src lo hi soft flags
    exact ⟨n, src, half lo hi, soft, flags, by rw [bytes16_half]; rfl, Option.some.inj h⟩
  · cases h

theorem readLoadSlot_only (r : Request) (body : List Byte) (h : readLoadSlot body = some r) :
    ∃ n st c p l t o payload, body = [n, st, c, p, l, t, o] ++ payload ∧ payload.length ≤ 57 ∧
      .loadSlot n st c p l t o payload = r := by
  unfold readLoadSlot at h
  split at h
  · rename_i n st c p l t o payload
    split at h
    · rename_i fits
      exact ⟨n, st, c, p, l, t, o, payload, rfl, fits, Option.some.inj h⟩
    · cases h
  · cases h

theorem readWriteSettings_only (r : Request) (body : List Byte) (h : readWriteSettings body = some r) :
    ∃ mask values, body = mask :: values ∧ values.length = namedCount mask ∧
      .writeSettings mask values = r := by
  unfold readWriteSettings at h
  split at h
  · split at h
    · rename_i mask values fits
      exact ⟨mask, values, rfl, fits, Option.some.inj h⟩
    · cases h
  · cases h

end Sys2Proof.Machine
end

