-- ==== Sys2Proof/Laws/Characters.lean ====
section
/-! SUPPORT. A byte and its character on a line are each read from the other; what the two receivers do
with whole characters and with framing errors. -/

namespace Sys2Proof.Machine

/-- Bit k of the byte that a character carries is read from the k-th data level. -/
theorem characterByte_bit (c : Character) (k : Fin 8) :
    (characterByte c).getLsbD k.val = decide (c.data[k] = .idle) := by
  have bits : ∀ l : List (Fin 8), ∀ w : Byte, (l.foldl
      (fun w k => w ||| flagBit (decide (c.data[k] = .idle)) k.val) w).getLsbD k.val =
        (w.getLsbD k.val || (decide (k ∈ l) && decide (c.data[k] = .idle))) := by
    have one : ∀ (j : Fin 8) (b : Bool),
        (flagBit b j.val).getLsbD k.val = (decide (k = j) && b) := by revert k; decide
    intro l
    induction l with
    | nil => intro w; simp
    | cons j l ih =>
      intro w
      rw [List.foldl_cons, ih, BitVec.getLsbD_or, one]
      by_cases h : k = j
      · subst h
        cases decide (c.data[k] = .idle) <;> simp
      · simp [h]
  rw [characterByte, bits]
  simp [List.mem_finRange]

@[simp] theorem characterByte_sampled (b : Byte) : characterByte (sampled b) = b := by
  apply BitVec.eq_of_getLsbD_eq
  intro k hk
  rw [show k = (⟨k, hk⟩ : Fin 8).val from rfl, characterByte_bit]
  cases h : b[k] <;> simp [sampled, dataLevel, BitVec.getLsbD_eq_getElem hk, h]

@[simp] theorem framingError_sampled (b : Byte) : framingError (sampled b) = false := rfl

/-- A character with no framing error is the one of its byte. -/
theorem sampled_characterByte (c : Character) (h : c.stop = .idle) : sampled (characterByte c) = c := by
  have data : (sampled (characterByte c)).data = c.data := by
    apply Vector.ext
    intro k hk
    have bit := characterByte_bit c ⟨k, hk⟩
    simp only [sampled, Vector.getElem_ofFn, dataLevel, bit]
    cases level : c.data[k] <;> simp
  cases c
  cases h
  exact congrArg (fun d => Character.mk d .idle) data

/-- Of whole characters every byte is read. -/
theorem goodBytes_sampled (bytes : List Byte) (rest : List Character) :
    goodBytes (bytes.map sampled ++ rest) = bytes ++ goodBytes rest := by
  induction bytes with
  | nil => rfl
  | cons b bytes ih =>
    rw [List.map_cons, List.cons_append, List.cons_append, ← ih]
    simp [goodBytes]

/-- Nothing is read from a framing error onward. -/
theorem goodBytes_broken (c : Character) (rest : List Character) (h : c.stop = .active) :
    goodBytes (c :: rest) = [] := by
  simp [goodBytes, framingError, h]

/-- Bytes after those that fix an outcome are not read. -/
theorem classifyReply_append (x : Exchange) (bytes more : List Byte) (o : Outcome)
    (h : classifyReply x bytes = some o) : classifyReply x (bytes ++ more) = some o := by
  match bytes with
  | [] => simp [classifyReply] at h
  | [m] => simp only [classifyReply] at h ⊢; split at h <;> simp_all
  | [m, b1] => simp only [classifyReply] at h ⊢; split at h <;> simp_all
  | m :: b1 :: b2 :: rest =>
    simp only [classifyReply, List.cons_append] at h ⊢
    split at h
    · simp_all
    · rename_i mark
      rw [if_neg mark]
      split at h
      · rename_i long
        rw [if_pos long]
        exact h
      · rename_i short
        rw [if_neg short]
        split at h
        · rename_i hi lo after tail
          have within : lengthField b2 ≤ rest.length := by
            by_contra outside
            rw [List.drop_eq_nil_of_le (by omega)] at tail
            simp at tail
          rw [List.drop_append_of_le_length within, List.take_append_of_le_length within, tail]
          simpa using h
        · simp at h

/-- Whole characters whose bytes fix an outcome fix it, whatever follows them. -/
theorem classifyCharacters_whole (x : Exchange) (bytes : List Byte) (rest : List Character) (o : Outcome)
    (h : classifyReply x bytes = some o) : classifyCharacters x (bytes.map sampled ++ rest) = some o := by
  simp [classifyCharacters, goodBytes_sampled, classifyReply_append x bytes _ o h]

/-- A framing error before the outcome is fixed gives GARBLED. -/
theorem classifyCharacters_broken (x : Exchange) (bytes : List Byte) (c : Character)
    (rest : List Character) (h : classifyReply x bytes = none) (error : c.stop = .active) :
    classifyCharacters x (bytes.map sampled ++ c :: rest) = some .garbled := by
  simp [classifyCharacters, goodBytes_sampled, goodBytes_broken c rest error, h, framingError, error]

@[simp] theorem receiveCharacter_sampled (s : State) (b : Byte) :
    s.receiveCharacter (sampled b) = s.receiveByte b := by
  simp [State.receiveCharacter]

theorem receiveCharacter_broken (s : State) (c : Character) (h : c.stop = .active) :
    s.receiveCharacter c = { s with intake := .search } := by
  simp [State.receiveCharacter, framingError, h]

end Sys2Proof.Machine
end

