-- ==== Sys2Proof/Laws/Crc.lean ====
section
/-! SUPPORT. One byte taken by the part's two CRC registers is eight bits taken in turn. -/

namespace Sys2Proof.Machine

open Sys2Proof.Safety

/-- A bit of a register into which the data have been brought, as a bit that is compared with the top. -/
theorem crcBit_xor {w : Nat} (poly r m : BitVec w) :
    (if (r ^^^ m).msb then ((r ^^^ m) <<< 1) ^^^ poly else (r ^^^ m) <<< 1) =
      (if r.msb = m.msb then r <<< 1 else (r <<< 1) ^^^ poly) ^^^ (m <<< 1) := by
  rw [BitVec.shiftLeft_xor_distrib, BitVec.msb_xor]
  cases r.msb <;> cases m.msb <;> simp [BitVec.xor_assoc, BitVec.xor_comm poly]

/-- The tops of a word shifted left in turn: the bits that eight steps compare. -/
def topBits {w : Nat} : Nat → BitVec w → List Bool
  | 0, _ => []
  | n + 1, m => m.msb :: topBits n (m <<< 1)

/-- A CRC is taken byte after byte. -/
theorem crcOf_cons {w : Nat} (poly r : BitVec w) (b : Byte) (rest : List Byte) :
    crcOf poly r (b :: rest) = crcOf poly (crcOf poly r [b]) rest := by
  unfold crcOf bitsOf
  rw [← List.foldl_append, List.flatMap_cons, List.flatMap_cons, List.flatMap_nil, List.append_nil]

/-- Eight steps with the data brought in first are eight steps of the serial form. -/
theorem eightTimes_crc {w : Nat} (poly : BitVec w) (f : BitVec w → BitVec w)
    (h : ∀ r m : BitVec w,
      f (r ^^^ m) = (if r.msb = m.msb then r <<< 1 else (r <<< 1) ^^^ poly) ^^^ (m <<< 1))
    (r m : BitVec w) : eightTimes f (r ^^^ m) =
      (topBits 8 m).foldl
          (fun (r : BitVec w) b => if r.msb = b then r <<< 1 else (r <<< 1) ^^^ poly) r ^^^
        eightTimes (fun m : BitVec w => m <<< 1) m := by
  simp only [eightTimes, h, topBits, List.foldl_cons, List.foldl_nil]

theorem crc8_byte (r b : Byte) : eightTimes crc8Bit (r ^^^ b) = crcOf 0x07 r [b] := by
  have gone : eightTimes (fun m : Byte => m <<< 1) b = 0 := by revert b; decide
  have bits : topBits 8 b = bitsOf [b] := by revert b; decide
  rw [eightTimes_crc 0x07 crc8Bit (crcBit_xor 0x07), gone, bits]
  exact BitVec.xor_zero

theorem crc16_byte (r : Half) (b : Byte) :
    eightTimes crc16Bit (r ^^^ (b ++ (0 : Byte))) = crcOf 0x1021 r [b] := by
  have gone : eightTimes (fun m : Half => m <<< 1) (b ++ (0 : Byte)) = 0 := by revert b; decide
  have bits : topBits 8 (b ++ (0 : Byte) : Half) = bitsOf [b] := by revert b; decide
  rw [eightTimes_crc 0x1021 crc16Bit (crcBit_xor 0x1021), gone, bits]
  exact BitVec.xor_zero

end Sys2Proof.Machine
end

