-- ==== Sys2Proof/Laws/State.lean ====
section
/-! SUPPORT. One lemma a field for each primitive update of the state, so that no later proof unfolds a
record update. -/

namespace Sys2Proof.Machine

/-! ### State.writeSlot -/

section
variable (s : State) (i : SlotId) (r : Slot)

@[simp] theorem writeSlot_pending : (State.writeSlot s i r).pending = s.pending := rfl
@[simp] theorem writeSlot_intake : (State.writeSlot s i r).intake = s.intake := rfl
@[simp] theorem writeSlot_holding : (State.writeSlot s i r).holding = s.holding := rfl
@[simp] theorem writeSlot_overrun : (State.writeSlot s i r).overrun = s.overrun := rfl
@[simp] theorem writeSlot_reply : (State.writeSlot s i r).reply = s.reply := rfl
@[simp] theorem writeSlot_settings : (State.writeSlot s i r).settings = s.settings := rfl
@[simp] theorem writeSlot_mode : (State.writeSlot s i r).mode = s.mode := rfl
@[simp] theorem writeSlot_requested : (State.writeSlot s i r).requested = s.requested := rfl
@[simp] theorem writeSlot_silence : (State.writeSlot s i r).silence = s.silence := rfl
@[simp] theorem writeSlot_wake : (State.writeSlot s i r).wake = s.wake := rfl
@[simp] theorem writeSlot_slots : (State.writeSlot s i r).slots = s.slots.set i { r with codeAgrees := true } := rfl
@[simp] theorem writeSlot_ready : (State.writeSlot s i r).ready = s.ready := rfl
@[simp] theorem writeSlot_dispatcher : (State.writeSlot s i r).dispatcher = s.dispatcher := rfl
@[simp] theorem writeSlot_exchange : (State.writeSlot s i r).exchange = s.exchange := rfl
@[simp] theorem writeSlot_stepEnable : (State.writeSlot s i r).stepEnable = s.stepEnable := rfl
@[simp] theorem writeSlot_reserved : (State.writeSlot s i r).reserved = s.reserved := rfl
@[simp] theorem writeSlot_lde : (State.writeSlot s i r).lde = s.lde := rfl
@[simp] theorem writeSlot_linkFrame : (State.writeSlot s i r).linkFrame = s.linkFrame := rfl
@[simp] theorem writeSlot_lineActive : (State.writeSlot s i r).lineActive = s.lineActive := rfl
@[simp] theorem writeSlot_loopAnswer : (State.writeSlot s i r).loopAnswer = s.loopAnswer := rfl
@[simp] theorem writeSlot_stations : (State.writeSlot s i r).stations = s.stations := rfl
@[simp] theorem writeSlot_lines : (State.writeSlot s i r).lines = s.lines := rfl
@[simp] theorem writeSlot_soft : (State.writeSlot s i r).soft = s.soft := rfl
@[simp] theorem writeSlot_threshold : (State.writeSlot s i r).threshold = s.threshold := rfl
@[simp] theorem writeSlot_timers : (State.writeSlot s i r).timers = s.timers := rfl
@[simp] theorem writeSlot_fineDivider : (State.writeSlot s i r).fineDivider = s.fineDivider := rfl
@[simp] theorem writeSlot_reports : (State.writeSlot s i r).reports = s.reports := rfl
@[simp] theorem writeSlot_fault : (State.writeSlot s i r).fault = s.fault := rfl
@[simp] theorem writeSlot_freeCount : (State.writeSlot s i r).freeCount = s.freeCount := rfl
@[simp] theorem writeSlot_crystal : (State.writeSlot s i r).crystal = s.crystal := rfl
@[simp] theorem writeSlot_clockSource : (State.writeSlot s i r).clockSource = s.clockSource := rfl
@[simp] theorem writeSlot_monitorRunning : (State.writeSlot s i r).monitorRunning = s.monitorRunning := rfl
@[simp] theorem writeSlot_lastCause : (State.writeSlot s i r).lastCause = s.lastCause := rfl
@[simp] theorem writeSlot_supplyFlag : (State.writeSlot s i r).supplyFlag = s.supplyFlag := rfl
@[simp] theorem writeSlot_uptime : (State.writeSlot s i r).uptime = s.uptime := rfl
@[simp] theorem writeSlot_startUp : (State.writeSlot s i r).startUp = s.startUp := rfl
@[simp] theorem writeSlot_supply : (State.writeSlot s i r).supply = s.supply := rfl
@[simp] theorem writeSlot_resetPin : (State.writeSlot s i r).resetPin = s.resetPin := rfl
@[simp] theorem writeSlot_pinResetHeld : (State.writeSlot s i r).pinResetHeld = s.pinResetHeld := rfl
@[simp] theorem writeSlot_rate1Pin : (State.writeSlot s i r).rate1Pin = s.rate1Pin := rfl
@[simp] theorem writeSlot_rate0Pin : (State.writeSlot s i r).rate0Pin = s.rate0Pin := rfl
@[simp] theorem writeSlot_portRate : (State.writeSlot s i r).portRate = s.portRate := rfl

end

/-! ### State.writeStation -/

section
variable (s : State) (st : StationId) (e : Station)

@[simp] theorem writeStation_pending : (State.writeStation s st e).pending = s.pending := rfl
@[simp] theorem writeStation_intake : (State.writeStation s st e).intake = s.intake := rfl
@[simp] theorem writeStation_holding : (State.writeStation s st e).holding = s.holding := rfl
@[simp] theorem writeStation_overrun : (State.writeStation s st e).overrun = s.overrun := rfl
@[simp] theorem writeStation_reply : (State.writeStation s st e).reply = s.reply := rfl
@[simp] theorem writeStation_settings : (State.writeStation s st e).settings = s.settings := rfl
@[simp] theorem writeStation_mode : (State.writeStation s st e).mode = s.mode := rfl
@[simp] theorem writeStation_requested : (State.writeStation s st e).requested = s.requested := rfl
@[simp] theorem writeStation_silence : (State.writeStation s st e).silence = s.silence := rfl
@[simp] theorem writeStation_wake : (State.writeStation s st e).wake = s.wake := rfl
@[simp] theorem writeStation_slots : (State.writeStation s st e).slots = s.slots := rfl
@[simp] theorem writeStation_ready : (State.writeStation s st e).ready = s.ready := rfl
@[simp] theorem writeStation_dispatcher : (State.writeStation s st e).dispatcher = s.dispatcher := rfl
@[simp] theorem writeStation_exchange : (State.writeStation s st e).exchange = s.exchange := rfl
@[simp] theorem writeStation_stepEnable : (State.writeStation s st e).stepEnable = s.stepEnable := rfl
@[simp] theorem writeStation_reserved : (State.writeStation s st e).reserved = s.reserved := rfl
@[simp] theorem writeStation_lde : (State.writeStation s st e).lde = s.lde := rfl
@[simp] theorem writeStation_linkFrame : (State.writeStation s st e).linkFrame = s.linkFrame := rfl
@[simp] theorem writeStation_lineActive : (State.writeStation s st e).lineActive = s.lineActive := rfl
@[simp] theorem writeStation_loopAnswer : (State.writeStation s st e).loopAnswer = s.loopAnswer := rfl
@[simp] theorem writeStation_stations : (State.writeStation s st e).stations = s.stations.set st { e with codeAgrees := true } := rfl
@[simp] theorem writeStation_lines : (State.writeStation s st e).lines = s.lines := rfl
@[simp] theorem writeStation_soft : (State.writeStation s st e).soft = s.soft := rfl
@[simp] theorem writeStation_threshold : (State.writeStation s st e).threshold = s.threshold := rfl
@[simp] theorem writeStation_timers : (State.writeStation s st e).timers = s.timers := rfl
@[simp] theorem writeStation_fineDivider : (State.writeStation s st e).fineDivider = s.fineDivider := rfl
@[simp] theorem writeStation_reports : (State.writeStation s st e).reports = s.reports := rfl
@[simp] theorem writeStation_fault : (State.writeStation s st e).fault = s.fault := rfl
@[simp] theorem writeStation_freeCount : (State.writeStation s st e).freeCount = s.freeCount := rfl
@[simp] theorem writeStation_crystal : (State.writeStation s st e).crystal = s.crystal := rfl
@[simp] theorem writeStation_clockSource : (State.writeStation s st e).clockSource = s.clockSource := rfl
@[simp] theorem writeStation_monitorRunning : (State.writeStation s st e).monitorRunning = s.monitorRunning := rfl
@[simp] theorem writeStation_lastCause : (State.writeStation s st e).lastCause = s.lastCause := rfl
@[simp] theorem writeStation_supplyFlag : (State.writeStation s st e).supplyFlag = s.supplyFlag := rfl
@[simp] theorem writeStation_uptime : (State.writeStation s st e).uptime = s.uptime := rfl
@[simp] theorem writeStation_startUp : (State.writeStation s st e).startUp = s.startUp := rfl
@[simp] theorem writeStation_supply : (State.writeStation s st e).supply = s.supply := rfl
@[simp] theorem writeStation_resetPin : (State.writeStation s st e).resetPin = s.resetPin := rfl
@[simp] theorem writeStation_pinResetHeld : (State.writeStation s st e).pinResetHeld = s.pinResetHeld := rfl
@[simp] theorem writeStation_rate1Pin : (State.writeStation s st e).rate1Pin = s.rate1Pin := rfl
@[simp] theorem writeStation_rate0Pin : (State.writeStation s st e).rate0Pin = s.rate0Pin := rfl
@[simp] theorem writeStation_portRate : (State.writeStation s st e).portRate = s.portRate := rfl

end

/-! ### State.writeLine -/

section
variable (s : State) (l : LineId) (r : Line)

@[simp] theorem writeLine_pending : (State.writeLine s l r).pending = s.pending := rfl
@[simp] theorem writeLine_intake : (State.writeLine s l r).intake = s.intake := rfl
@[simp] theorem writeLine_holding : (State.writeLine s l r).holding = s.holding := rfl
@[simp] theorem writeLine_overrun : (State.writeLine s l r).overrun = s.overrun := rfl
@[simp] theorem writeLine_reply : (State.writeLine s l r).reply = s.reply := rfl
@[simp] theorem writeLine_settings : (State.writeLine s l r).settings = s.settings := rfl
@[simp] theorem writeLine_mode : (State.writeLine s l r).mode = s.mode := rfl
@[simp] theorem writeLine_requested : (State.writeLine s l r).requested = s.requested := rfl
@[simp] theorem writeLine_silence : (State.writeLine s l r).silence = s.silence := rfl
@[simp] theorem writeLine_wake : (State.writeLine s l r).wake = s.wake := rfl
@[simp] theorem writeLine_slots : (State.writeLine s l r).slots = s.slots := rfl
@[simp] theorem writeLine_ready : (State.writeLine s l r).ready = s.ready := rfl
@[simp] theorem writeLine_dispatcher : (State.writeLine s l r).dispatcher = s.dispatcher := rfl
@[simp] theorem writeLine_exchange : (State.writeLine s l r).exchange = s.exchange := rfl
@[simp] theorem writeLine_stepEnable : (State.writeLine s l r).stepEnable = s.stepEnable := rfl
@[simp] theorem writeLine_reserved : (State.writeLine s l r).reserved = s.reserved := rfl
@[simp] theorem writeLine_lde : (State.writeLine s l r).lde = s.lde := rfl
@[simp] theorem writeLine_linkFrame : (State.writeLine s l r).linkFrame = s.linkFrame := rfl
@[simp] theorem writeLine_lineActive : (State.writeLine s l r).lineActive = s.lineActive := rfl
@[simp] theorem writeLine_loopAnswer : (State.writeLine s l r).loopAnswer = s.loopAnswer := rfl
@[simp] theorem writeLine_stations : (State.writeLine s l r).stations = s.stations := rfl
@[simp] theorem writeLine_lines : (State.writeLine s l r).lines = s.lines.set l r := rfl
@[simp] theorem writeLine_soft : (State.writeLine s l r).soft = s.soft := rfl
@[simp] theorem writeLine_threshold : (State.writeLine s l r).threshold = s.threshold := rfl
@[simp] theorem writeLine_timers : (State.writeLine s l r).timers = s.timers := rfl
@[simp] theorem writeLine_fineDivider : (State.writeLine s l r).fineDivider = s.fineDivider := rfl
@[simp] theorem writeLine_reports : (State.writeLine s l r).reports = s.reports := rfl
@[simp] theorem writeLine_fault : (State.writeLine s l r).fault = s.fault := rfl
@[simp] theorem writeLine_freeCount : (State.writeLine s l r).freeCount = s.freeCount := rfl
@[simp] theorem writeLine_crystal : (State.writeLine s l r).crystal = s.crystal := rfl
@[simp] theorem writeLine_clockSource : (State.writeLine s l r).clockSource = s.clockSource := rfl
@[simp] theorem writeLine_monitorRunning : (State.writeLine s l r).monitorRunning = s.monitorRunning := rfl
@[simp] theorem writeLine_lastCause : (State.writeLine s l r).lastCause = s.lastCause := rfl
@[simp] theorem writeLine_supplyFlag : (State.writeLine s l r).supplyFlag = s.supplyFlag := rfl
@[simp] theorem writeLine_uptime : (State.writeLine s l r).uptime = s.uptime := rfl
@[simp] theorem writeLine_startUp : (State.writeLine s l r).startUp = s.startUp := rfl
@[simp] theorem writeLine_supply : (State.writeLine s l r).supply = s.supply := rfl
@[simp] theorem writeLine_resetPin : (State.writeLine s l r).resetPin = s.resetPin := rfl
@[simp] theorem writeLine_pinResetHeld : (State.writeLine s l r).pinResetHeld = s.pinResetHeld := rfl
@[simp] theorem writeLine_rate1Pin : (State.writeLine s l r).rate1Pin = s.rate1Pin := rfl
@[simp] theorem writeLine_rate0Pin : (State.writeLine s l r).rate0Pin = s.rate0Pin := rfl
@[simp] theorem writeLine_portRate : (State.writeLine s l r).portRate = s.portRate := rfl

end

/-! ### State.writeTimer -/

section
variable (s : State) (n : TimerId) (r : Timer)

@[simp] theorem writeTimer_pending : (State.writeTimer s n r).pending = s.pending := rfl
@[simp] theorem writeTimer_intake : (State.writeTimer s n r).intake = s.intake := rfl
@[simp] theorem writeTimer_holding : (State.writeTimer s n r).holding = s.holding := rfl
@[simp] theorem writeTimer_overrun : (State.writeTimer s n r).overrun = s.overrun := rfl
@[simp] theorem writeTimer_reply : (State.writeTimer s n r).reply = s.reply := rfl
@[simp] theorem writeTimer_settings : (State.writeTimer s n r).settings = s.settings := rfl
@[simp] theorem writeTimer_mode : (State.writeTimer s n r).mode = s.mode := rfl
@[simp] theorem writeTimer_requested : (State.writeTimer s n r).requested = s.requested := rfl
@[simp] theorem writeTimer_silence : (State.writeTimer s n r).silence = s.silence := rfl
@[simp] theorem writeTimer_wake : (State.writeTimer s n r).wake = s.wake := rfl
@[simp] theorem writeTimer_slots : (State.writeTimer s n r).slots = s.slots := rfl
@[simp] theorem writeTimer_ready : (State.writeTimer s n r).ready = s.ready := rfl
@[simp] theorem writeTimer_dispatcher : (State.writeTimer s n r).dispatcher = s.dispatcher := rfl
@[simp] theorem writeTimer_exchange : (State.writeTimer s n r).exchange = s.exchange := rfl
@[simp] theorem writeTimer_stepEnable : (State.writeTimer s n r).stepEnable = s.stepEnable := rfl
@[simp] theorem writeTimer_reserved : (State.writeTimer s n r).reserved = s.reserved := rfl
@[simp] theorem writeTimer_lde : (State.writeTimer s n r).lde = s.lde := rfl
@[simp] theorem writeTimer_linkFrame : (State.writeTimer s n r).linkFrame = s.linkFrame := rfl
@[simp] theorem writeTimer_lineActive : (State.writeTimer s n r).lineActive = s.lineActive := rfl
@[simp] theorem writeTimer_loopAnswer : (State.writeTimer s n r).loopAnswer = s.loopAnswer := rfl
@[simp] theorem writeTimer_stations : (State.writeTimer s n r).stations = s.stations := rfl
@[simp] theorem writeTimer_lines : (State.writeTimer s n r).lines = s.lines := rfl
@[simp] theorem writeTimer_soft : (State.writeTimer s n r).soft = s.soft := rfl
@[simp] theorem writeTimer_threshold : (State.writeTimer s n r).threshold = s.threshold := rfl
@[simp] theorem writeTimer_timers : (State.writeTimer s n r).timers = s.timers.set n r := rfl
@[simp] theorem writeTimer_fineDivider : (State.writeTimer s n r).fineDivider = s.fineDivider := rfl
@[simp] theorem writeTimer_reports : (State.writeTimer s n r).reports = s.reports := rfl
@[simp] theorem writeTimer_fault : (State.writeTimer s n r).fault = s.fault := rfl
@[simp] theorem writeTimer_freeCount : (State.writeTimer s n r).freeCount = s.freeCount := rfl
@[simp] theorem writeTimer_crystal : (State.writeTimer s n r).crystal = s.crystal := rfl
@[simp] theorem writeTimer_clockSource : (State.writeTimer s n r).clockSource = s.clockSource := rfl
@[simp] theorem writeTimer_monitorRunning : (State.writeTimer s n r).monitorRunning = s.monitorRunning := rfl
@[simp] theorem writeTimer_lastCause : (State.writeTimer s n r).lastCause = s.lastCause := rfl
@[simp] theorem writeTimer_supplyFlag : (State.writeTimer s n r).supplyFlag = s.supplyFlag := rfl
@[simp] theorem writeTimer_uptime : (State.writeTimer s n r).uptime = s.uptime := rfl
@[simp] theorem writeTimer_startUp : (State.writeTimer s n r).startUp = s.startUp := rfl
@[simp] theorem writeTimer_supply : (State.writeTimer s n r).supply = s.supply := rfl
@[simp] theorem writeTimer_resetPin : (State.writeTimer s n r).resetPin = s.resetPin := rfl
@[simp] theorem writeTimer_pinResetHeld : (State.writeTimer s n r).pinResetHeld = s.pinResetHeld := rfl
@[simp] theorem writeTimer_rate1Pin : (State.writeTimer s n r).rate1Pin = s.rate1Pin := rfl
@[simp] theorem writeTimer_rate0Pin : (State.writeTimer s n r).rate0Pin = s.rate0Pin := rfl
@[simp] theorem writeTimer_portRate : (State.writeTimer s n r).portRate = s.portRate := rfl

end

/-! ### State.writeSoft -/

section
variable (s : State) (l : SoftId) (o : Origins)

@[simp] theorem writeSoft_pending : (State.writeSoft s l o).pending = s.pending := rfl
@[simp] theorem writeSoft_intake : (State.writeSoft s l o).intake = s.intake := rfl
@[simp] theorem writeSoft_holding : (State.writeSoft s l o).holding = s.holding := rfl
@[simp] theorem writeSoft_overrun : (State.writeSoft s l o).overrun = s.overrun := rfl
@[simp] theorem writeSoft_reply : (State.writeSoft s l o).reply = s.reply := rfl
@[simp] theorem writeSoft_settings : (State.writeSoft s l o).settings = s.settings := rfl
@[simp] theorem writeSoft_mode : (State.writeSoft s l o).mode = s.mode := rfl
@[simp] theorem writeSoft_requested : (State.writeSoft s l o).requested = s.requested := rfl
@[simp] theorem writeSoft_silence : (State.writeSoft s l o).silence = s.silence := rfl
@[simp] theorem writeSoft_wake : (State.writeSoft s l o).wake = s.wake := rfl
@[simp] theorem writeSoft_slots : (State.writeSoft s l o).slots = s.slots := rfl
@[simp] theorem writeSoft_ready : (State.writeSoft s l o).ready = s.ready := rfl
@[simp] theorem writeSoft_dispatcher : (State.writeSoft s l o).dispatcher = s.dispatcher := rfl
@[simp] theorem writeSoft_exchange : (State.writeSoft s l o).exchange = s.exchange := rfl
@[simp] theorem writeSoft_stepEnable : (State.writeSoft s l o).stepEnable = s.stepEnable := rfl
@[simp] theorem writeSoft_reserved : (State.writeSoft s l o).reserved = s.reserved := rfl
@[simp] theorem writeSoft_lde : (State.writeSoft s l o).lde = s.lde := rfl
@[simp] theorem writeSoft_linkFrame : (State.writeSoft s l o).linkFrame = s.linkFrame := rfl
@[simp] theorem writeSoft_lineActive : (State.writeSoft s l o).lineActive = s.lineActive := rfl
@[simp] theorem writeSoft_loopAnswer : (State.writeSoft s l o).loopAnswer = s.loopAnswer := rfl
@[simp] theorem writeSoft_stations : (State.writeSoft s l o).stations = s.stations := rfl
@[simp] theorem writeSoft_lines : (State.writeSoft s l o).lines = s.lines := rfl
@[simp] theorem writeSoft_soft : (State.writeSoft s l o).soft = s.soft.set l o := rfl
@[simp] theorem writeSoft_threshold : (State.writeSoft s l o).threshold = s.threshold := rfl
@[simp] theorem writeSoft_timers : (State.writeSoft s l o).timers = s.timers := rfl
@[simp] theorem writeSoft_fineDivider : (State.writeSoft s l o).fineDivider = s.fineDivider := rfl
@[simp] theorem writeSoft_reports : (State.writeSoft s l o).reports = s.reports := rfl
@[simp] theorem writeSoft_fault : (State.writeSoft s l o).fault = s.fault := rfl
@[simp] theorem writeSoft_freeCount : (State.writeSoft s l o).freeCount = s.freeCount := rfl
@[simp] theorem writeSoft_crystal : (State.writeSoft s l o).crystal = s.crystal := rfl
@[simp] theorem writeSoft_clockSource : (State.writeSoft s l o).clockSource = s.clockSource := rfl
@[simp] theorem writeSoft_monitorRunning : (State.writeSoft s l o).monitorRunning = s.monitorRunning := rfl
@[simp] theorem writeSoft_lastCause : (State.writeSoft s l o).lastCause = s.lastCause := rfl
@[simp] theorem writeSoft_supplyFlag : (State.writeSoft s l o).supplyFlag = s.supplyFlag := rfl
@[simp] theorem writeSoft_uptime : (State.writeSoft s l o).uptime = s.uptime := rfl
@[simp] theorem writeSoft_startUp : (State.writeSoft s l o).startUp = s.startUp := rfl
@[simp] theorem writeSoft_supply : (State.writeSoft s l o).supply = s.supply := rfl
@[simp] theorem writeSoft_resetPin : (State.writeSoft s l o).resetPin = s.resetPin := rfl
@[simp] theorem writeSoft_pinResetHeld : (State.writeSoft s l o).pinResetHeld = s.pinResetHeld := rfl
@[simp] theorem writeSoft_rate1Pin : (State.writeSoft s l o).rate1Pin = s.rate1Pin := rfl
@[simp] theorem writeSoft_rate0Pin : (State.writeSoft s l o).rate0Pin = s.rate0Pin := rfl
@[simp] theorem writeSoft_portRate : (State.writeSoft s l o).portRate = s.portRate := rfl

end

/-! ### State.queueReport -/

section
variable (s : State) (b : ReportBody)

@[simp] theorem queueReport_pending : (State.queueReport s b).pending = s.pending := rfl
@[simp] theorem queueReport_intake : (State.queueReport s b).intake = s.intake := rfl
@[simp] theorem queueReport_holding : (State.queueReport s b).holding = s.holding := rfl
@[simp] theorem queueReport_overrun : (State.queueReport s b).overrun = s.overrun := rfl
@[simp] theorem queueReport_reply : (State.queueReport s b).reply = s.reply := rfl
@[simp] theorem queueReport_settings : (State.queueReport s b).settings = s.settings := rfl
@[simp] theorem queueReport_mode : (State.queueReport s b).mode = s.mode := rfl
@[simp] theorem queueReport_requested : (State.queueReport s b).requested = s.requested := rfl
@[simp] theorem queueReport_silence : (State.queueReport s b).silence = s.silence := rfl
@[simp] theorem queueReport_wake : (State.queueReport s b).wake = s.wake := rfl
@[simp] theorem queueReport_slots : (State.queueReport s b).slots = s.slots := rfl
@[simp] theorem queueReport_ready : (State.queueReport s b).ready = s.ready := rfl
@[simp] theorem queueReport_dispatcher : (State.queueReport s b).dispatcher = s.dispatcher := rfl
@[simp] theorem queueReport_exchange : (State.queueReport s b).exchange = s.exchange := rfl
@[simp] theorem queueReport_stepEnable : (State.queueReport s b).stepEnable = s.stepEnable := rfl
@[simp] theorem queueReport_reserved : (State.queueReport s b).reserved = s.reserved := rfl
@[simp] theorem queueReport_lde : (State.queueReport s b).lde = s.lde := rfl
@[simp] theorem queueReport_linkFrame : (State.queueReport s b).linkFrame = s.linkFrame := rfl
@[simp] theorem queueReport_lineActive : (State.queueReport s b).lineActive = s.lineActive := rfl
@[simp] theorem queueReport_loopAnswer : (State.queueReport s b).loopAnswer = s.loopAnswer := rfl
@[simp] theorem queueReport_stations : (State.queueReport s b).stations = s.stations := rfl
@[simp] theorem queueReport_lines : (State.queueReport s b).lines = s.lines := rfl
@[simp] theorem queueReport_soft : (State.queueReport s b).soft = s.soft := rfl
@[simp] theorem queueReport_threshold : (State.queueReport s b).threshold = s.threshold := rfl
@[simp] theorem queueReport_timers : (State.queueReport s b).timers = s.timers := rfl
@[simp] theorem queueReport_fineDivider : (State.queueReport s b).fineDivider = s.fineDivider := rfl
@[simp] theorem queueReport_reports : (State.queueReport s b).reports = s.reports ++ [⟨s.uptime, b⟩] := rfl
@[simp] theorem queueReport_fault : (State.queueReport s b).fault = s.fault := rfl
@[simp] theorem queueReport_freeCount : (State.queueReport s b).freeCount = s.freeCount := rfl
@[simp] theorem queueReport_crystal : (State.queueReport s b).crystal = s.crystal := rfl
@[simp] theorem queueReport_clockSource : (State.queueReport s b).clockSource = s.clockSource := rfl
@[simp] theorem queueReport_monitorRunning : (State.queueReport s b).monitorRunning = s.monitorRunning := rfl
@[simp] theorem queueReport_lastCause : (State.queueReport s b).lastCause = s.lastCause := rfl
@[simp] theorem queueReport_supplyFlag : (State.queueReport s b).supplyFlag = s.supplyFlag := rfl
@[simp] theorem queueReport_uptime : (State.queueReport s b).uptime = s.uptime := rfl
@[simp] theorem queueReport_startUp : (State.queueReport s b).startUp = s.startUp := rfl
@[simp] theorem queueReport_supply : (State.queueReport s b).supply = s.supply := rfl
@[simp] theorem queueReport_resetPin : (State.queueReport s b).resetPin = s.resetPin := rfl
@[simp] theorem queueReport_pinResetHeld : (State.queueReport s b).pinResetHeld = s.pinResetHeld := rfl
@[simp] theorem queueReport_rate1Pin : (State.queueReport s b).rate1Pin = s.rate1Pin := rfl
@[simp] theorem queueReport_rate0Pin : (State.queueReport s b).rate0Pin = s.rate0Pin := rfl
@[simp] theorem queueReport_portRate : (State.queueReport s b).portRate = s.portRate := rfl

end

/-! ### State.queueReserved -/

section
variable (s : State) (b : ReportBody)

@[simp] theorem queueReserved_pending : (State.queueReserved s b).pending = s.pending := rfl
@[simp] theorem queueReserved_intake : (State.queueReserved s b).intake = s.intake := rfl
@[simp] theorem queueReserved_holding : (State.queueReserved s b).holding = s.holding := rfl
@[simp] theorem queueReserved_overrun : (State.queueReserved s b).overrun = s.overrun := rfl
@[simp] theorem queueReserved_reply : (State.queueReserved s b).reply = s.reply := rfl
@[simp] theorem queueReserved_settings : (State.queueReserved s b).settings = s.settings := rfl
@[simp] theorem queueReserved_mode : (State.queueReserved s b).mode = s.mode := rfl
@[simp] theorem queueReserved_requested : (State.queueReserved s b).requested = s.requested := rfl
@[simp] theorem queueReserved_silence : (State.queueReserved s b).silence = s.silence := rfl
@[simp] theorem queueReserved_wake : (State.queueReserved s b).wake = s.wake := rfl
@[simp] theorem queueReserved_slots : (State.queueReserved s b).slots = s.slots := rfl
@[simp] theorem queueReserved_ready : (State.queueReserved s b).ready = s.ready := rfl
@[simp] theorem queueReserved_dispatcher : (State.queueReserved s b).dispatcher = s.dispatcher := rfl
@[simp] theorem queueReserved_exchange : (State.queueReserved s b).exchange = s.exchange := rfl
@[simp] theorem queueReserved_stepEnable : (State.queueReserved s b).stepEnable = s.stepEnable := rfl
@[simp] theorem queueReserved_reserved : (State.queueReserved s b).reserved = s.reserved - 1 := rfl
@[simp] theorem queueReserved_lde : (State.queueReserved s b).lde = s.lde := rfl
@[simp] theorem queueReserved_linkFrame : (State.queueReserved s b).linkFrame = s.linkFrame := rfl
@[simp] theorem queueReserved_lineActive : (State.queueReserved s b).lineActive = s.lineActive := rfl
@[simp] theorem queueReserved_loopAnswer : (State.queueReserved s b).loopAnswer = s.loopAnswer := rfl
@[simp] theorem queueReserved_stations : (State.queueReserved s b).stations = s.stations := rfl
@[simp] theorem queueReserved_lines : (State.queueReserved s b).lines = s.lines := rfl
@[simp] theorem queueReserved_soft : (State.queueReserved s b).soft = s.soft := rfl
@[simp] theorem queueReserved_threshold : (State.queueReserved s b).threshold = s.threshold := rfl
@[simp] theorem queueReserved_timers : (State.queueReserved s b).timers = s.timers := rfl
@[simp] theorem queueReserved_fineDivider : (State.queueReserved s b).fineDivider = s.fineDivider := rfl
@[simp] theorem queueReserved_reports : (State.queueReserved s b).reports = s.reports ++ [⟨s.uptime, b⟩] := rfl
@[simp] theorem queueReserved_fault : (State.queueReserved s b).fault = s.fault := rfl
@[simp] theorem queueReserved_freeCount : (State.queueReserved s b).freeCount = s.freeCount := rfl
@[simp] theorem queueReserved_crystal : (State.queueReserved s b).crystal = s.crystal := rfl
@[simp] theorem queueReserved_clockSource : (State.queueReserved s b).clockSource = s.clockSource := rfl
@[simp] theorem queueReserved_monitorRunning : (State.queueReserved s b).monitorRunning = s.monitorRunning := rfl
@[simp] theorem queueReserved_lastCause : (State.queueReserved s b).lastCause = s.lastCause := rfl
@[simp] theorem queueReserved_supplyFlag : (State.queueReserved s b).supplyFlag = s.supplyFlag := rfl
@[simp] theorem queueReserved_uptime : (State.queueReserved s b).uptime = s.uptime := rfl
@[simp] theorem queueReserved_startUp : (State.queueReserved s b).startUp = s.startUp := rfl
@[simp] theorem queueReserved_supply : (State.queueReserved s b).supply = s.supply := rfl
@[simp] theorem queueReserved_resetPin : (State.queueReserved s b).resetPin = s.resetPin := rfl
@[simp] theorem queueReserved_pinResetHeld : (State.queueReserved s b).pinResetHeld = s.pinResetHeld := rfl
@[simp] theorem queueReserved_rate1Pin : (State.queueReserved s b).rate1Pin = s.rate1Pin := rfl
@[simp] theorem queueReserved_rate0Pin : (State.queueReserved s b).rate0Pin = s.rate0Pin := rfl
@[simp] theorem queueReserved_portRate : (State.queueReserved s b).portRate = s.portRate := rfl

end

/-! ### State.leaveQueue -/

section
variable (s : State) (i : SlotId)

@[simp] theorem leaveQueue_pending : (State.leaveQueue s i).pending = s.pending := rfl
@[simp] theorem leaveQueue_intake : (State.leaveQueue s i).intake = s.intake := rfl
@[simp] theorem leaveQueue_holding : (State.leaveQueue s i).holding = s.holding := rfl
@[simp] theorem leaveQueue_overrun : (State.leaveQueue s i).overrun = s.overrun := rfl
@[simp] theorem leaveQueue_reply : (State.leaveQueue s i).reply = s.reply := rfl
@[simp] theorem leaveQueue_settings : (State.leaveQueue s i).settings = s.settings := rfl
@[simp] theorem leaveQueue_mode : (State.leaveQueue s i).mode = s.mode := rfl
@[simp] theorem leaveQueue_requested : (State.leaveQueue s i).requested = s.requested := rfl
@[simp] theorem leaveQueue_silence : (State.leaveQueue s i).silence = s.silence := rfl
@[simp] theorem leaveQueue_wake : (State.leaveQueue s i).wake = s.wake := rfl
@[simp] theorem leaveQueue_slots : (State.leaveQueue s i).slots = s.slots := rfl
@[simp] theorem leaveQueue_ready : (State.leaveQueue s i).ready = s.ready.erase i := rfl
@[simp] theorem leaveQueue_dispatcher : (State.leaveQueue s i).dispatcher = s.dispatcher := rfl
@[simp] theorem leaveQueue_exchange : (State.leaveQueue s i).exchange = s.exchange := rfl
@[simp] theorem leaveQueue_stepEnable : (State.leaveQueue s i).stepEnable = s.stepEnable := rfl
@[simp] theorem leaveQueue_reserved : (State.leaveQueue s i).reserved = s.reserved := rfl
@[simp] theorem leaveQueue_lde : (State.leaveQueue s i).lde = s.lde := rfl
@[simp] theorem leaveQueue_linkFrame : (State.leaveQueue s i).linkFrame = s.linkFrame := rfl
@[simp] theorem leaveQueue_lineActive : (State.leaveQueue s i).lineActive = s.lineActive := rfl
@[simp] theorem leaveQueue_loopAnswer : (State.leaveQueue s i).loopAnswer = s.loopAnswer := rfl
@[simp] theorem leaveQueue_stations : (State.leaveQueue s i).stations = s.stations := rfl
@[simp] theorem leaveQueue_lines : (State.leaveQueue s i).lines = s.lines := rfl
@[simp] theorem leaveQueue_soft : (State.leaveQueue s i).soft = s.soft := rfl
@[simp] theorem leaveQueue_threshold : (State.leaveQueue s i).threshold = s.threshold := rfl
@[simp] theorem leaveQueue_timers : (State.leaveQueue s i).timers = s.timers := rfl
@[simp] theorem leaveQueue_fineDivider : (State.leaveQueue s i).fineDivider = s.fineDivider := rfl
@[simp] theorem leaveQueue_reports : (State.leaveQueue s i).reports = s.reports := rfl
@[simp] theorem leaveQueue_fault : (State.leaveQueue s i).fault = s.fault := rfl
@[simp] theorem leaveQueue_freeCount : (State.leaveQueue s i).freeCount = s.freeCount := rfl
@[simp] theorem leaveQueue_crystal : (State.leaveQueue s i).crystal = s.crystal := rfl
@[simp] theorem leaveQueue_clockSource : (State.leaveQueue s i).clockSource = s.clockSource := rfl
@[simp] theorem leaveQueue_monitorRunning : (State.leaveQueue s i).monitorRunning = s.monitorRunning := rfl
@[simp] theorem leaveQueue_lastCause : (State.leaveQueue s i).lastCause = s.lastCause := rfl
@[simp] theorem leaveQueue_supplyFlag : (State.leaveQueue s i).supplyFlag = s.supplyFlag := rfl
@[simp] theorem leaveQueue_uptime : (State.leaveQueue s i).uptime = s.uptime := rfl
@[simp] theorem leaveQueue_startUp : (State.leaveQueue s i).startUp = s.startUp := rfl
@[simp] theorem leaveQueue_supply : (State.leaveQueue s i).supply = s.supply := rfl
@[simp] theorem leaveQueue_resetPin : (State.leaveQueue s i).resetPin = s.resetPin := rfl
@[simp] theorem leaveQueue_pinResetHeld : (State.leaveQueue s i).pinResetHeld = s.pinResetHeld := rfl
@[simp] theorem leaveQueue_rate1Pin : (State.leaveQueue s i).rate1Pin = s.rate1Pin := rfl
@[simp] theorem leaveQueue_rate0Pin : (State.leaveQueue s i).rate0Pin = s.rate0Pin := rfl
@[simp] theorem leaveQueue_portRate : (State.leaveQueue s i).portRate = s.portRate := rfl

end

/-! ### State.joinBack -/

section
variable (s : State) (i : SlotId)

@[simp] theorem joinBack_pending : (State.joinBack s i).pending = s.pending := rfl
@[simp] theorem joinBack_intake : (State.joinBack s i).intake = s.intake := rfl
@[simp] theorem joinBack_holding : (State.joinBack s i).holding = s.holding := rfl
@[simp] theorem joinBack_overrun : (State.joinBack s i).overrun = s.overrun := rfl
@[simp] theorem joinBack_reply : (State.joinBack s i).reply = s.reply := rfl
@[simp] theorem joinBack_settings : (State.joinBack s i).settings = s.settings := rfl
@[simp] theorem joinBack_mode : (State.joinBack s i).mode = s.mode := rfl
@[simp] theorem joinBack_requested : (State.joinBack s i).requested = s.requested := rfl
@[simp] theorem joinBack_silence : (State.joinBack s i).silence = s.silence := rfl
@[simp] theorem joinBack_wake : (State.joinBack s i).wake = s.wake := rfl
@[simp] theorem joinBack_slots : (State.joinBack s i).slots = s.slots := rfl
@[simp] theorem joinBack_dispatcher : (State.joinBack s i).dispatcher = s.dispatcher := rfl
@[simp] theorem joinBack_exchange : (State.joinBack s i).exchange = s.exchange := rfl
@[simp] theorem joinBack_stepEnable : (State.joinBack s i).stepEnable = s.stepEnable := rfl
@[simp] theorem joinBack_reserved : (State.joinBack s i).reserved = s.reserved := rfl
@[simp] theorem joinBack_lde : (State.joinBack s i).lde = s.lde := rfl
@[simp] theorem joinBack_linkFrame : (State.joinBack s i).linkFrame = s.linkFrame := rfl
@[simp] theorem joinBack_lineActive : (State.joinBack s i).lineActive = s.lineActive := rfl
@[simp] theorem joinBack_loopAnswer : (State.joinBack s i).loopAnswer = s.loopAnswer := rfl
@[simp] theorem joinBack_stations : (State.joinBack s i).stations = s.stations := rfl
@[simp] theorem joinBack_lines : (State.joinBack s i).lines = s.lines := rfl
@[simp] theorem joinBack_soft : (State.joinBack s i).soft = s.soft := rfl
@[simp] theorem joinBack_threshold : (State.joinBack s i).threshold = s.threshold := rfl
@[simp] theorem joinBack_timers : (State.joinBack s i).timers = s.timers := rfl
@[simp] theorem joinBack_fineDivider : (State.joinBack s i).fineDivider = s.fineDivider := rfl
@[simp] theorem joinBack_reports : (State.joinBack s i).reports = s.reports := rfl
@[simp] theorem joinBack_fault : (State.joinBack s i).fault = s.fault := rfl
@[simp] theorem joinBack_freeCount : (State.joinBack s i).freeCount = s.freeCount := rfl
@[simp] theorem joinBack_crystal : (State.joinBack s i).crystal = s.crystal := rfl
@[simp] theorem joinBack_clockSource : (State.joinBack s i).clockSource = s.clockSource := rfl
@[simp] theorem joinBack_monitorRunning : (State.joinBack s i).monitorRunning = s.monitorRunning := rfl
@[simp] theorem joinBack_lastCause : (State.joinBack s i).lastCause = s.lastCause := rfl
@[simp] theorem joinBack_supplyFlag : (State.joinBack s i).supplyFlag = s.supplyFlag := rfl
@[simp] theorem joinBack_uptime : (State.joinBack s i).uptime = s.uptime := rfl
@[simp] theorem joinBack_startUp : (State.joinBack s i).startUp = s.startUp := rfl
@[simp] theorem joinBack_supply : (State.joinBack s i).supply = s.supply := rfl
@[simp] theorem joinBack_resetPin : (State.joinBack s i).resetPin = s.resetPin := rfl
@[simp] theorem joinBack_pinResetHeld : (State.joinBack s i).pinResetHeld = s.pinResetHeld := rfl
@[simp] theorem joinBack_rate1Pin : (State.joinBack s i).rate1Pin = s.rate1Pin := rfl
@[simp] theorem joinBack_rate0Pin : (State.joinBack s i).rate0Pin = s.rate0Pin := rfl
@[simp] theorem joinBack_portRate : (State.joinBack s i).portRate = s.portRate := rfl

end

/-! ### State.joinFront -/

section
variable (s : State) (i : SlotId)

@[simp] theorem joinFront_pending : (State.joinFront s i).pending = s.pending := rfl
@[simp] theorem joinFront_intake : (State.joinFront s i).intake = s.intake := rfl
@[simp] theorem joinFront_holding : (State.joinFront s i).holding = s.holding := rfl
@[simp] theorem joinFront_overrun : (State.joinFront s i).overrun = s.overrun := rfl
@[simp] theorem joinFront_reply : (State.joinFront s i).reply = s.reply := rfl
@[simp] theorem joinFront_settings : (State.joinFront s i).settings = s.settings := rfl
@[simp] theorem joinFront_mode : (State.joinFront s i).mode = s.mode := rfl
@[simp] theorem joinFront_requested : (State.joinFront s i).requested = s.requested := rfl
@[simp] theorem joinFront_silence : (State.joinFront s i).silence = s.silence := rfl
@[simp] theorem joinFront_wake : (State.joinFront s i).wake = s.wake := rfl
@[simp] theorem joinFront_slots : (State.joinFront s i).slots = s.slots := rfl
@[simp] theorem joinFront_dispatcher : (State.joinFront s i).dispatcher = s.dispatcher := rfl
@[simp] theorem joinFront_exchange : (State.joinFront s i).exchange = s.exchange := rfl
@[simp] theorem joinFront_stepEnable : (State.joinFront s i).stepEnable = s.stepEnable := rfl
@[simp] theorem joinFront_reserved : (State.joinFront s i).reserved = s.reserved := rfl
@[simp] theorem joinFront_lde : (State.joinFront s i).lde = s.lde := rfl
@[simp] theorem joinFront_linkFrame : (State.joinFront s i).linkFrame = s.linkFrame := rfl
@[simp] theorem joinFront_lineActive : (State.joinFront s i).lineActive = s.lineActive := rfl
@[simp] theorem joinFront_loopAnswer : (State.joinFront s i).loopAnswer = s.loopAnswer := rfl
@[simp] theorem joinFront_stations : (State.joinFront s i).stations = s.stations := rfl
@[simp] theorem joinFront_lines : (State.joinFront s i).lines = s.lines := rfl
@[simp] theorem joinFront_soft : (State.joinFront s i).soft = s.soft := rfl
@[simp] theorem joinFront_threshold : (State.joinFront s i).threshold = s.threshold := rfl
@[simp] theorem joinFront_timers : (State.joinFront s i).timers = s.timers := rfl
@[simp] theorem joinFront_fineDivider : (State.joinFront s i).fineDivider = s.fineDivider := rfl
@[simp] theorem joinFront_reports : (State.joinFront s i).reports = s.reports := rfl
@[simp] theorem joinFront_fault : (State.joinFront s i).fault = s.fault := rfl
@[simp] theorem joinFront_freeCount : (State.joinFront s i).freeCount = s.freeCount := rfl
@[simp] theorem joinFront_crystal : (State.joinFront s i).crystal = s.crystal := rfl
@[simp] theorem joinFront_clockSource : (State.joinFront s i).clockSource = s.clockSource := rfl
@[simp] theorem joinFront_monitorRunning : (State.joinFront s i).monitorRunning = s.monitorRunning := rfl
@[simp] theorem joinFront_lastCause : (State.joinFront s i).lastCause = s.lastCause := rfl
@[simp] theorem joinFront_supplyFlag : (State.joinFront s i).supplyFlag = s.supplyFlag := rfl
@[simp] theorem joinFront_uptime : (State.joinFront s i).uptime = s.uptime := rfl
@[simp] theorem joinFront_startUp : (State.joinFront s i).startUp = s.startUp := rfl
@[simp] theorem joinFront_supply : (State.joinFront s i).supply = s.supply := rfl
@[simp] theorem joinFront_resetPin : (State.joinFront s i).resetPin = s.resetPin := rfl
@[simp] theorem joinFront_pinResetHeld : (State.joinFront s i).pinResetHeld = s.pinResetHeld := rfl
@[simp] theorem joinFront_rate1Pin : (State.joinFront s i).rate1Pin = s.rate1Pin := rfl
@[simp] theorem joinFront_rate0Pin : (State.joinFront s i).rate0Pin = s.rate0Pin := rfl
@[simp] theorem joinFront_portRate : (State.joinFront s i).portRate = s.portRate := rfl

end

end Sys2Proof.Machine
end

