-- ==== Sys2Proof/Laws/Frames.lean ====
section
/-! SUPPORT. What each shared operation can change, said once: the result is the state it was given with
only the fields named written. -/

namespace Sys2Proof.Machine

/-! ## The frame relations -/

/-- Only the slots, the station entries and the ready queue are written. -/
def OnlySlots (s t : State) : Prop :=
  t = { s with slots := t.slots, stations := t.stations, ready := t.ready }

/-- Only what the end of a slot's, a station's or a level's business writes: slots, stations, ready queue,
levels, reports and reservation. -/
def OnlyTables (s t : State) : Prop :=
  t = { s with
    slots := t.slots, stations := t.stations, ready := t.ready, lines := t.lines,
    reports := t.reports, reserved := t.reserved }

/-- Only the levels, the wake source and the crystal are written. -/
def OnlyLines (s t : State) : Prop :=
  t = { s with lines := t.lines, wake := t.wake, crystal := t.crystal }

/-- Only the soft levels and the reports are written. -/
def OnlySoft (s t : State) : Prop := t = { s with soft := t.soft, reports := t.reports }

/-- Only what a change of mode writes. -/
def OnlyMode (s t : State) : Prop :=
  t = { s with
    mode := t.mode, requested := t.requested, silence := t.silence, dispatcher := t.dispatcher,
    slots := t.slots, stations := t.stations, ready := t.ready, lines := t.lines,
    reports := t.reports }

/-- Only what a fault writes: the record, and what entry to HALTED writes. -/
def OnlyFault (s t : State) : Prop :=
  t = { s with
    fault := t.fault, mode := t.mode, requested := t.requested, silence := t.silence,
    dispatcher := t.dispatcher, lde := t.lde, linkFrame := t.linkFrame, timers := t.timers }

/-- Only what an underflow with its chain writes. -/
def OnlyUnderflow (s t : State) : Prop :=
  t = { s with
    timers := t.timers, slots := t.slots, ready := t.ready, soft := t.soft, reports := t.reports,
    wake := t.wake, crystal := t.crystal }

/-- Only what the end of an exchange writes. -/
def OnlyEnd (s t : State) : Prop :=
  t = { s with
    lde := t.lde, linkFrame := t.linkFrame, slots := t.slots, stations := t.stations,
    ready := t.ready, lines := t.lines, reports := t.reports, reserved := t.reserved,
    fault := t.fault, mode := t.mode, requested := t.requested, silence := t.silence,
    dispatcher := t.dispatcher, timers := t.timers, exchange := t.exchange,
    loopAnswer := t.loopAnswer, soft := t.soft }

/-- A fold keeps a relation that each of its steps keeps. -/
theorem foldl_relates {α : Type} (R : State → State → Prop) (refl : ∀ s, R s s)
    (trans : ∀ s t u, R s t → R t u → R s u) (f : State → α → State) (step : ∀ s a, R s (f s a))
    (l : List α) (s : State) : R s (l.foldl f s) := by
  induction l generalizing s with
  | nil => exact refl s
  | cons a l ih => exact trans _ _ _ (step s a) (ih (f s a))

theorem OnlySlots.refl (s : State) : OnlySlots s s := rfl

theorem OnlySlots.trans {s t u : State} (h : OnlySlots s t) (k : OnlySlots t u) : OnlySlots s u := by
  unfold OnlySlots at *; rw [k, h]

theorem OnlyTables.refl (s : State) : OnlyTables s s := rfl

theorem OnlyTables.trans {s t u : State} (h : OnlyTables s t) (k : OnlyTables t u) :
    OnlyTables s u := by
  unfold OnlyTables at *; rw [k, h]

theorem OnlyLines.refl (s : State) : OnlyLines s s := rfl

theorem OnlyLines.trans {s t u : State} (h : OnlyLines s t) (k : OnlyLines t u) : OnlyLines s u := by
  unfold OnlyLines at *; rw [k, h]

theorem OnlySoft.refl (s : State) : OnlySoft s s := rfl

theorem OnlySoft.trans {s t u : State} (h : OnlySoft s t) (k : OnlySoft t u) : OnlySoft s u := by
  unfold OnlySoft at *; rw [k, h]

theorem OnlyMode.refl (s : State) : OnlyMode s s := rfl

theorem OnlyMode.trans {s t u : State} (h : OnlyMode s t) (k : OnlyMode t u) : OnlyMode s u := by
  unfold OnlyMode at *; rw [k, h]

theorem OnlyUnderflow.refl (s : State) : OnlyUnderflow s s := rfl

theorem OnlyUnderflow.trans {s t u : State} (h : OnlyUnderflow s t) (k : OnlyUnderflow t u) :
    OnlyUnderflow s u := by
  unfold OnlyUnderflow at *; rw [k, h]

theorem OnlyEnd.refl (s : State) : OnlyEnd s s := rfl

theorem OnlyEnd.trans {s t u : State} (h : OnlyEnd s t) (k : OnlyEnd t u) : OnlyEnd s u := by
  unfold OnlyEnd at *; rw [k, h]

/-- A relation inside a wider one. -/
theorem OnlySlots.tables {s t : State} (h : OnlySlots s t) : OnlyTables s t := by
  unfold OnlySlots OnlyTables at *; rw [h]

theorem OnlySlots.mode {s t : State} (h : OnlySlots s t) : OnlyMode s t := by
  unfold OnlySlots OnlyMode at *; rw [h]

theorem OnlyTables.end {s t : State} (h : OnlyTables s t) : OnlyEnd s t := by
  unfold OnlyTables OnlyEnd at *; rw [h]

theorem OnlyMode.end {s t : State} (h : OnlyMode s t) : OnlyEnd s t := by
  unfold OnlyMode OnlyEnd at *; rw [h]

theorem OnlyFault.end {s t : State} (h : OnlyFault s t) : OnlyEnd s t := by
  unfold OnlyFault OnlyEnd at *; rw [h]

theorem OnlySoft.end {s t : State} (h : OnlySoft s t) : OnlyEnd s t := by
  unfold OnlySoft OnlyEnd at *; rw [h]

theorem OnlySoft.underflow {s t : State} (h : OnlySoft s t) : OnlyUnderflow s t := by
  unfold OnlySoft OnlyUnderflow at *; rw [h]

/-! ## Single updates -/

theorem OnlySlots.emptyReady {s t : State} (h : OnlySlots s t) : OnlySlots s { t with ready := [] } := by
  unfold OnlySlots at *; rw [h]

theorem OnlyTables.reserve {s t : State} (h : OnlyTables s t) (b : ReportBody) :
    OnlyTables s (t.queueReserved b) := by
  unfold OnlyTables at *; rw [h]; rfl

theorem writeStation_only (s : State) (st : StationId) (e : Station) :
    OnlyTables s (s.writeStation st e) := rfl

theorem writeLine_only (s : State) (l : LineId) (r : Line) : OnlyLines s (s.writeLine l r) := rfl

theorem OnlyMode.writeLines {s t : State} (h : OnlyMode s t) (v : Vector Line 4) :
    OnlyMode s { t with lines := v } := by
  unfold OnlyMode at *; rw [h]

theorem OnlyMode.report {s t : State} (h : OnlyMode s t) (b : ReportBody) :
    OnlyMode s (t.queueReport b) := by
  unfold OnlyMode at *; rw [h]; rfl

theorem OnlyEnd.dispatcherAfter {s t : State} (h : OnlyEnd s t) (x : Exchange) :
    OnlyEnd s (t.dispatcherAfter x) := by
  unfold OnlyEnd at *; rw [h]; rfl

theorem OnlyUnderflow.writeTimer {s t : State} (h : OnlyUnderflow s t) (n : TimerId) (r : Timer) :
    OnlyUnderflow s (t.writeTimer n r) := by
  unfold OnlyUnderflow at *; rw [h]; rfl

/-! ## Slots -/

theorem raiseArmed_only (s : State) (a : Address) : OnlySlots s (s.raiseArmed a) := by
  unfold State.raiseArmed; split <;> rfl

theorem lowerArmed_only (s : State) (a : Address) : OnlySlots s (s.lowerArmed a) := by
  unfold State.lowerArmed; split <;> rfl

theorem writeSlot_only (s : State) (i : SlotId) (r : Slot) : OnlySlots s (s.writeSlot i r) := rfl

theorem leaveQueue_only (s : State) (i : SlotId) : OnlySlots s (s.leaveQueue i) := rfl

theorem joinBack_only (s : State) (i : SlotId) : OnlySlots s (s.joinBack i) := rfl

theorem joinFront_only (s : State) (i : SlotId) : OnlySlots s (s.joinFront i) := rfl

theorem disarmTo_only (s : State) (i : SlotId) (r : Slot) : OnlySlots s (s.disarmTo i r) :=
  (writeSlot_only s i r).trans (lowerArmed_only _ _)

theorem failLost_only (s : State) (i : SlotId) : OnlySlots s (s.failLost i) :=
  (leaveQueue_only s i).trans (disarmTo_only _ _ _)

theorem failSlotsOf_only (s : State) (st : StationId) : OnlySlots s (s.failSlotsOf st) := by
  refine foldl_relates OnlySlots OnlySlots.refl (fun _ _ _ => OnlySlots.trans) _ (fun t i => ?_) _ s
  split
  · exact failLost_only t i
  · rfl

theorem disarmAll_only (s : State) : OnlySlots s s.disarmAll := by
  refine OnlySlots.emptyReady (foldl_relates OnlySlots OnlySlots.refl (fun _ _ _ => OnlySlots.trans) _
    (fun t i => ?_) allSlots s)
  split
  · exact disarmTo_only t i _
  · rfl

theorem startSlot_only (s : State) (i : SlotId) : OnlySlots s (s.startSlot i) := by
  unfold State.startSlot
  simp only
  split
  · exact ((writeSlot_only s i _).trans (raiseArmed_only _ _)).trans (joinBack_only _ _)
  · exact (writeSlot_only s i _).trans (raiseArmed_only _ _)

theorem startAll_only (l : List SlotId) (s : State) : OnlySlots s (l.foldl State.startSlot s) :=
  foldl_relates OnlySlots OnlySlots.refl (fun _ _ _ => OnlySlots.trans) _ startSlot_only l s

theorem abortOne_only (s : State) (i : SlotId) : OnlySlots s (s.abortOne i) := by
  unfold State.abortOne
  simp only
  split
  · exact (leaveQueue_only s i).trans (disarmTo_only _ _ _)
  · exact (leaveQueue_only s i).trans (disarmTo_only _ _ _)
  all_goals rfl

theorem abortAll_only (s : State) : OnlySlots s (allSlots.foldl State.abortOne s) :=
  foldl_relates OnlySlots OnlySlots.refl (fun _ _ _ => OnlySlots.trans) _ abortOne_only allSlots s

theorem releaseSlot_only (s : State) (n : TimerId) (i : SlotId) : OnlySlots s (s.releaseSlot n i) := by
  unfold State.releaseSlot
  simp only
  split
  · split
    · rfl
    · split <;> rfl
    · split <;> rfl
    all_goals rfl
  · rfl

theorem activateSlot_only (s : State) (i : SlotId) : OnlySlots s (s.activateSlot i) := rfl

theorem reportCompletion_only (s : State) (i : SlotId) : OnlyTables s (s.reportCompletion i) := rfl

theorem failSlotCode_only (s : State) (i : SlotId) : OnlyTables s (s.failSlotCode i) :=
  (((leaveQueue_only s i).trans (disarmTo_only _ _ _)).tables).trans (reportCompletion_only _ _)

theorem finishSlot_only (s : State) (i : SlotId) (st : SlotState) (o : SlotOutcome)
    (refusal : Option Byte) (response : Option (List Byte)) (tooLate report : Bool) :
    OnlyTables s (s.finishSlot i st o refusal response tooLate report) := by
  unfold State.finishSlot
  simp only
  split
  · exact (disarmTo_only s i _).tables.trans (reportCompletion_only _ _)
  · exact (disarmTo_only s i _).tables

theorem retrySlot_only (s : State) (i : SlotId) (n : Nat) : OnlyTables s (s.retrySlot i n) := rfl

theorem slotAck_only (s : State) (i : SlotId) (p : List Byte) : OnlyTables s (s.slotAck i p) := by
  unfold State.slotAck
  simp only
  split
  · split
    · rfl
    · exact (writeSlot_only s i _).tables.trans (reportCompletion_only _ _)
  · exact finishSlot_only _ _ _ _ _ _ _ _

theorem slotUncounted_only (s : State) (i : SlotId) : OnlyTables s (s.slotUncounted i) := by
  unfold State.slotUncounted
  simp only
  split
  · exact (writeSlot_only s i _).tables.trans (finishSlot_only _ _ _ _ _ _ _ _)
  · exact (writeSlot_only s i _).tables.trans (retrySlot_only _ _ _)

theorem slotFailed_only (s : State) (i : SlotId) (b : Bool) (o : SlotOutcome) :
    OnlyTables s (s.slotFailed i b o) := by
  unfold State.slotFailed
  simp only
  split
  · exact finishSlot_only _ _ _ _ _ _ _ _
  · split
    · exact finishSlot_only _ _ _ _ _ _ _ _
    · split
      · exact retrySlot_only _ _ _
      · exact finishSlot_only _ _ _ _ _ _ _ _

theorem slotEnd_only (s : State) (i : SlotId) (o : Outcome) : OnlyTables s (s.slotEnd i o) := by
  unfold State.slotEnd
  split
  · exact slotAck_only _ _ _
  · exact slotAck_only _ _ _
  · exact finishSlot_only _ _ _ _ _ _ _ _
  · exact slotFailed_only _ _ _ _
  · exact slotFailed_only _ _ _ _
  · exact slotFailed_only _ _ _ _
  · exact slotFailed_only _ _ _ _
  · exact slotUncounted_only _ _
  · exact slotUncounted_only _ _
  · rfl

/-! ## Stations and levels -/

theorem dropFromLists_only (s : State) (st : StationId) : OnlyTables s (s.dropFromLists st) := rfl

theorem dropLost_only (s : State) (st : StationId) : OnlyTables s (s.dropLost st) := by
  unfold State.dropLost; split <;> rfl

theorem loseStation_only (s : State) (st : StationId) (r : StationReason) (o : Option StationState)
    (own : Option SlotId) : OnlyTables s (s.loseStation st r o own) :=
  ((failSlotsOf_only s st).tables.reserve _).trans (dropLost_only _ _)

theorem loseByCheck_only (s : State) (st : StationId) : OnlyTables s (s.loseByCheck st) :=
  (writeStation_only _ _ _).trans (loseStation_only _ _ _ _ _)

theorem scoreEnd_only (s : State) (st : StationId) (own : Option SlotId) (o : Outcome) :
    OnlyTables s (s.scoreEnd st own o) := by
  unfold State.scoreEnd
  simp only
  split
  · rfl
  · split
    · exact (writeStation_only _ _ _).trans (loseStation_only _ _ _ _ _)
    · rfl

theorem probeEnd_only (s : State) (st : StationId) (o : Outcome) : OnlyTables s (s.probeEnd st o) := by
  have h : OnlyTables s (s.probeFails st) := by
    unfold State.probeFails
    simp only
    split
    · rfl
    · exact (writeStation_only _ _ _).trans (loseStation_only _ _ _ _ _)
  unfold State.probeEnd
  split
  · rfl
  all_goals first | exact h | rfl

theorem stationTakes_only (s : State) (x : Exchange) (o : Outcome) :
    OnlyTables s (s.stationTakes x o) := by
  unfold State.stationTakes
  split
  · rfl
  · split
    · rfl
    · split
      · exact scoreEnd_only _ _ _ _
      · exact scoreEnd_only _ _ _ _
      · exact probeEnd_only _ _ _
      · rfl

theorem endRoll_only (s : State) (l : LineId) (w : StationSet) (u : Bool) :
    OnlyTables s (s.endRoll l w u) := by
  unfold State.endRoll; simp only; split <;> rfl

theorem rollEnd_only (s : State) (l : LineId) (o : Outcome) : OnlyTables s (s.rollEnd l o) := by
  have h : ∀ p m, OnlyTables s (s.rollFails l p m) := by
    intro p m
    unfold State.rollFails
    split
    · exact endRoll_only _ _ _ _
    · rfl
  unfold State.rollEnd
  split
  · exact endRoll_only _ _ _ _
  · exact h _ _
  · exact h _ _
  all_goals rfl

theorem causeEnd_only (s : State) (l : LineId) (st : StationId) (o : Outcome) :
    OnlyTables s (s.causeEnd l st o) := by
  unfold State.causeEnd
  split
  · split
    · unfold State.causeAck
      simp only
      split <;> split <;> rfl
    · rfl
    all_goals first
      | rfl
      | (unfold State.readFails; split <;> rfl)
  · rfl

theorem ownerTakes_only (s : State) (x : Exchange) (o : Outcome) : OnlyTables s (s.ownerTakes x o) := by
  unfold State.ownerTakes
  split
  · exact slotEnd_only _ _ _
  · exact rollEnd_only _ _ _
  · exact causeEnd_only _ _ _ _
  · rfl

/-! ## Filtered lines and soft levels -/

theorem tellWake_only (s : State) (w : WakeSource) : OnlyLines s (s.tellWake w) := by
  unfold State.tellWake; split <;> rfl

theorem changeLine_only (s : State) (l : LineId) (v : Bool) : OnlyLines s (s.changeLine l v) := by
  unfold State.changeLine
  simp only
  split
  · exact (writeLine_only _ _ _).trans (tellWake_only _ _)
  · rfl

theorem filterTakes_only (s : State) (l : LineId) : OnlyLines s (s.filterTakes l) := by
  unfold State.filterTakes
  split
  · rfl
  · simp only
    split
    · rfl
    · exact (writeLine_only _ _ _).trans (changeLine_only _ _ _)

theorem retimeFilters_only (s : State) : OnlyLines s s.retimeFilters := by
  unfold State.retimeFilters
  split
  · exact foldl_relates OnlyLines OnlyLines.refl (fun _ _ _ => OnlyLines.trans) _ filterTakes_only _ s
  · rfl

theorem softTest_only (s : State) (l : SoftId) : OnlySoft s (s.softTest l) := by
  unfold State.softTest; split <;> rfl

theorem softTests_only (s : State) : OnlySoft s s.softTests :=
  ((softTest_only s 2).trans (softTest_only _ 1)).trans (softTest_only _ 0)

theorem addOrigin_only (s : State) (l : SoftId) (o : Origins) : OnlySoft s (s.addOrigin l o) :=
  OnlySoft.trans (t := s.writeSoft l (s.soft[l] ||| o)) rfl (softTest_only _ _)

/-! ## The mode and faults -/

theorem onEntry_only (s : State) (m : Mode) : OnlyMode s (s.onEntry m) := by
  unfold State.onEntry
  split
  · exact (disarmAll_only s).mode.writeLines _
  · rfl

theorem onBorder_only (s : State) (a b : Mode) : OnlyMode s (s.onBorder a b) := by
  unfold State.onBorder; split
  · rfl
  · split <;> rfl

theorem changeMode_only (s : State) (m : Mode) (c : ModeCause) : OnlyMode s (s.changeMode m c) := by
  unfold State.changeMode
  simp only
  refine OnlyMode.report (OnlyMode.trans (OnlyMode.trans ?_ (onEntry_only _ _)) (onBorder_only _ _ _)) _
  rfl

theorem forceHold_only (s : State) (c : ModeCause) : OnlyMode s (s.forceHold c) := by
  unfold State.forceHold; split
  · exact changeMode_only _ _ _
  · rfl

theorem silenceExpires_only (s : State) : OnlyMode s s.silenceExpires := by
  unfold State.silenceExpires; split
  · exact changeMode_only _ _ _
  · rfl

theorem completeRequested_only (s : State) : OnlyMode s s.completeRequested := by
  unfold State.completeRequested; split
  · rfl
  · exact changeMode_only _ _ _

theorem takeFault_only (s : State) (f : FaultRecord) : OnlyFault s (s.takeFault f) := by
  unfold State.takeFault
  split
  · rfl
  · split
    · rfl
    · split <;> rfl

/-! ## The end of an exchange -/

theorem linkStuck_only (s : State) (x : Exchange) (o : Outcome) : OnlyEnd s (s.linkStuck x o) := by
  unfold State.linkStuck; split
  · exact (takeFault_only _ _).end.trans (forceHold_only _ _).end
  · rfl

theorem stepReport_only (s : State) (x : Exchange) (o : Outcome) : OnlyEnd s (s.stepReport x o) := by
  unfold State.stepReport; split <;> rfl

theorem release_only (s : State) : OnlyEnd s s.release :=
  OnlyEnd.trans (t := { s with reserved := 0, exchange := none, loopAnswer := none }) rfl
    (softTests_only _).end

theorem endExchange_only (s : State) (x : Exchange) (o : Outcome) : OnlyEnd s (s.endExchange x o) := by
  unfold State.endExchange
  refine OnlyEnd.trans ?_ (completeRequested_only _).end
  refine OnlyEnd.dispatcherAfter ?_ x
  refine OnlyEnd.trans ?_ (release_only _)
  refine OnlyEnd.trans ?_ (stepReport_only _ _ _)
  refine OnlyEnd.trans ?_ (linkStuck_only _ _ _)
  refine OnlyEnd.trans ?_ (ownerTakes_only _ _ _).end
  exact OnlyEnd.trans (t := s.stopLink) rfl (stationTakes_only _ _ _).end

theorem abandonFlight_only (s : State) : OnlyEnd s s.abandonFlight := by
  unfold State.abandonFlight; split
  · rfl
  · exact endExchange_only _ _ _

theorem takeFaultElsewhere_only (s : State) (f : FaultRecord) :
    OnlyEnd s (s.takeFaultElsewhere f) := by
  unfold State.takeFaultElsewhere; split
  · exact (takeFault_only _ _).end.trans (abandonFlight_only _)
  · exact (takeFault_only _ _).end

/-! ## Timers -/

theorem releaseSlots_only (s : State) (n : TimerId) : OnlyUnderflow s (s.releaseSlots n) := by
  have h : ∀ t i, OnlyUnderflow t (State.releaseSlot t n i) := by
    intro t i
    unfold State.releaseSlot
    simp only
    split
    · split
      · rfl
      · split <;> rfl
      · split <;> rfl
      all_goals rfl
    · rfl
  unfold State.releaseSlots
  split
  · rfl
  · exact foldl_relates OnlyUnderflow OnlyUnderflow.refl (fun _ _ _ => OnlyUnderflow.trans) _ h _ s

theorem handOut_only (s : State) (n : TimerId) : OnlyUnderflow s (s.handOut n) := by
  unfold State.handOut
  refine OnlyUnderflow.trans (t := (((s.writeTimer n s.timers[n].atUnderflow).releaseSlots n).addTimerOrigin
    n)) ?_ ?_
  · refine OnlyUnderflow.trans (t := (s.writeTimer n s.timers[n].atUnderflow).releaseSlots n) ?_ ?_
    · exact OnlyUnderflow.trans (t := s.writeTimer n s.timers[n].atUnderflow) rfl (releaseSlots_only _ _)
    · unfold State.addTimerOrigin
      split
      · rfl
      · exact (addOrigin_only _ _ _).underflow
  · unfold State.timerWakes
    split
    · unfold State.tellWake
      split <;> rfl
    · rfl

theorem underflow_only (fuel : Nat) (s : State) (n : TimerId) :
    OnlyUnderflow s (State.underflow fuel s n) := by
  induction fuel generalizing s n with
  | zero => exact OnlyUnderflow.refl s
  | succ fuel ih =>
    unfold State.underflow
    refine OnlyUnderflow.trans (handOut_only s n) ?_
    simp only
    split
    · split
      · split
        · rfl
        · exact ih _ _
      · rfl
    · rfl

theorem takeDue_only (s : State) : OnlyUnderflow s s.takeDue := by
  refine foldl_relates OnlyUnderflow OnlyUnderflow.refl (fun _ _ _ => OnlyUnderflow.trans) _
    (fun t n => ?_) _ s
  split
  · exact underflow_only 8 t n
  · rfl

end Sys2Proof.Machine
end

