-- ==== Sys2Proof/Laws/Modes.lean ====
section
/-! SUPPORT. What a change of mode leaves in each field it writes, and what a fault does by the state of the
fault record. -/

namespace Sys2Proof.Machine

/-- Only the slots, the station entries, the ready queue and the levels are written. -/
def OnlyBoard (s t : State) : Prop :=
  t = { s with slots := t.slots, stations := t.stations, ready := t.ready, lines := t.lines }

theorem onEntry_board (s : State) (m : Mode) : OnlyBoard s (s.onEntry m) := by
  unfold State.onEntry
  split
  · have h := disarmAll_only s
    unfold OnlySlots at h
    unfold OnlyBoard
    rw [h]
  · rfl

theorem onBorder_board (s : State) (a b : Mode) : OnlyBoard s (s.onBorder a b) := by
  unfold State.onBorder
  split
  · rfl
  · split <;> rfl

theorem OnlyBoard.trans {s t u : State} (h : OnlyBoard s t) (k : OnlyBoard t u) : OnlyBoard s u := by
  unfold OnlyBoard at *; rw [k, h]

/-- The state in which a change of mode has written the mode controller's items and told the dispatcher,
and then the tables. -/
theorem changeMode_board (s : State) (m : Mode) (c : ModeCause) :
    ∃ t, OnlyBoard { s with
        mode := m
        requested := none
        silence := if m = Mode.run then s.settings.silenceStart else none
        dispatcher := s.dispatcher.afterMode s.mode m } t ∧
      s.changeMode m c = { t with reports := t.reports ++ [⟨t.uptime, .mode s.mode m c none⟩] } :=
  ⟨_, (onEntry_board _ m).trans (onBorder_board _ s.mode m), rfl⟩

section
variable (s : State) (m : Mode) (c : ModeCause)

@[simp] theorem changeMode_mode : (s.changeMode m c).mode = m := by
  obtain ⟨t, h, e⟩ := changeMode_board s m c
  unfold OnlyBoard at h
  rw [e, h]

@[simp] theorem changeMode_requested : (s.changeMode m c).requested = none := by
  obtain ⟨t, h, e⟩ := changeMode_board s m c
  unfold OnlyBoard at h
  rw [e, h]

@[simp] theorem changeMode_silence : (s.changeMode m c).silence =
    if m = Mode.run then s.settings.silenceStart else none := by
  obtain ⟨t, h, e⟩ := changeMode_board s m c
  unfold OnlyBoard at h
  rw [e, h]

@[simp] theorem changeMode_dispatcher :
    (s.changeMode m c).dispatcher = s.dispatcher.afterMode s.mode m := by
  obtain ⟨t, h, e⟩ := changeMode_board s m c
  unfold OnlyBoard at h
  rw [e, h]

@[simp] theorem changeMode_reports :
    (s.changeMode m c).reports = s.reports ++ [⟨s.uptime, .mode s.mode m c none⟩] := by
  obtain ⟨t, h, e⟩ := changeMode_board s m c
  unfold OnlyBoard at h
  rw [e, h]

end

/-- A fault with the record empty or retained is written whole (R165, second case). -/
theorem takeFault_fills (s : State) (f : FaultRecord) (h : s.fault.all FaultRecord.retained = true) :
    s.takeFault f = { s with fault := some f } := by
  unfold State.takeFault
  cases hf : s.fault with
  | none => rfl
  | some r =>
    rw [hf] at h
    exact if_pos h

/-- A fault with the record occupied, not retained and with no second kind halts the part (R165, third
case). -/
theorem takeFault_halts (s : State) (f r : FaultRecord) (h : s.fault = some r)
    (hr : r.retained = false) (hs : r.second = none) :
    s.takeFault f = { s.enterHalted with fault := some { r with second := some f.kind } } := by
  unfold State.takeFault
  rw [h]
  simp [hr, hs]

/-- A third fault leaves everything as it stands (R165, first case). -/
theorem takeFault_third (s : State) (f r : FaultRecord) (h : s.fault = some r)
    (hr : r.retained = false) (hs : r.second.isSome = true) : s.takeFault f = s := by
  unfold State.takeFault
  rw [h]
  simp [hr, hs]

end Sys2Proof.Machine
end

