-- ==== Sys2Proof/Laws/Losses.lean ====
section
/-! SUPPORT. What a crystal loss leaves for the events that meet it: a look after it finds nothing to do,
and the two commands behind a loss by their cases. -/

namespace Sys2Proof.Machine

open Sys2Proof.Safety

/-- A frame is taken at once exactly where the port is free. -/
theorem takesAtOnce_iff (s : State) : s.takesAtOnce = true ↔ PortFree s := by
  simp only [State.takesAtOnce, PortFree, Bool.and_eq_true, Option.isNone_iff_eq_none, List.isEmpty_iff,
    and_assoc]

/-- After a forced HOLD the mode is neither RUN nor LOOPBACK. -/
theorem forceHold_notTraffic (s : State) (c : ModeCause) : (s.forceHold c).mode.traffic = false := by
  unfold State.forceHold
  split
  · rw [changeMode_mode]; rfl
  · simp_all

/-- After a loss found the mode is neither RUN nor LOOPBACK. -/
theorem findLoss_notTraffic (s : State) (h : s.monitorRunning = true) :
    s.findLoss.mode.traffic = false := by
  unfold State.findLoss
  rw [if_pos h]
  split
  · rename_i d
    simp only [State.dormantLoss, State.emptyPort, d]
    rfl
  · exact forceHold_notTraffic _ _

/-- A look after a loss found takes nothing (R30). -/
theorem look_findLoss (s : State) (h : s.monitorRunning = true) (active : Bool) (u : Upset) :
    s.findLoss.look active u = s.findLoss := by
  unfold State.look
  rw [if_neg]
  simp [State.canStart, findLoss_notTraffic s h]

/-- After a loss found the receiver takes no frames (R169, R174). -/
theorem findLoss_takesFrames (s : State) (h : s.monitorRunning = true) : s.findLoss.takesFrames = false := by
  have k : s.findLoss.clockSource = .lowSpeed := by
    unfold State.findLoss
    rw [if_pos h]
    split
    · rfl
    · unfold State.crystalLost
      dsimp only
      have f := forceHold_only
      have e := takeFaultElsewhere_only
      have a := abandonFlight_only
      unfold OnlyMode at f
      unfold OnlyEnd at e a
      rw [f, e]
      dsimp only
      split
      · rw [a]
      · rfl
  simp [State.takesFrames, k]

/-- A frame that arrives after a loss found is discarded. -/
theorem receive_findLoss (s : State) (h : s.monitorRunning = true) (tag : Byte) (r : Request) :
    s.findLoss.receive tag r = s.findLoss := by
  unfold State.receive State.frameArrives
  rw [findLoss_takesFrames s h]
  rfl

/-- Behind a loss, a look that would have taken nothing changes nothing. -/
theorem lookBehindLoss_idle (s : State) (active : Bool) (u : Upset) (h : s.monitorRunning = true)
    (k : s.canStart = false ∨ s.candidate = none) : s.lookBehindLoss active u = s.findLoss := by
  unfold State.lookBehindLoss
  split
  · rename_i c
    rw [Bool.and_eq_true] at c
    rcases k with k | k
    · rw [k] at c
      exact absurd c.2 (by decide)
    · rw [k]
  · exact look_findLoss s h active u

/-- Behind a loss, the candidate of the moment is tested. -/
theorem lookBehindLoss_takes (s : State) (active : Bool) (u : Upset) (x : Exchange)
    (h : s.monitorRunning = true) (c : s.canStart = true) (k : s.candidate = some x) :
    s.lookBehindLoss active u = s.takeBehindLoss x u := by
  unfold State.lookBehindLoss
  simp only [h, c, Bool.and_self, if_true, k]

end Sys2Proof.Machine
end

