-- ==== Sys2Proof/Laws/PerInstr.lean ====
section
/-! SUPPORT. The statements made command by command. `FrameFits`: a well-formed command that is a host
request carries a request whose lengths are admitted, in a body that one frame can carry (R170). -/

namespace Sys2Proof.Laws.FrameFits

open Sys2Proof Sys2Proof.Machine Sys2Proof.Safety

/-- A request that a well-formed command carries is well-formed, and its body is 0..64 bytes. -/
def Statement (i : Instr) : Prop :=
  i.wellFormed = true → ∀ (tag : Byte) (r : Request), i = commandOf tag r →
    Request.wellFormed r = true ∧ (Request.body r).length ≤ 64

/-- A mask names at most six fields. -/
theorem namedCount_le (mask : Byte) : namedCount mask ≤ 6 := by
  unfold namedCount
  exact (List.length_filter_le _ _).trans (by simp)

theorem loadSlot (tag slot station command priority retryLimit trigger options : Byte) (payload : List Byte) :
    Statement (.loadSlot tag slot station command priority retryLimit trigger options payload) := by
  intro h tag' r e
  cases r <;> cases e
  have k : payload.length ≤ 57 := by simpa [Instr.wellFormed, WellFormed.loadPayload] using h
  exact ⟨h, by simp only [Request.body, List.length_append, List.length_cons, List.length_nil]; omega⟩

theorem releaseSlot (tag slot : Byte) : Statement (.releaseSlot tag slot) := by
  intro _ tag' r e
  cases r <;> cases e
  exact ⟨rfl, Nat.le_of_ble_eq_true rfl⟩

theorem readSlot (tag slot : Byte) : Statement (.readSlot tag slot) := by
  intro _ tag' r e
  cases r <;> cases e
  exact ⟨rfl, Nat.le_of_ble_eq_true rfl⟩

theorem start (tag : Byte) (slots : SlotSet) : Statement (.start tag slots) := by
  intro _ tag' r e
  cases r <;> cases e
  exact ⟨rfl, Nat.le_of_ble_eq_true rfl⟩

theorem abortSlot (tag slot : Byte) : Statement (.abortSlot tag slot) := by
  intro _ tag' r e
  cases r <;> cases e
  exact ⟨rfl, Nat.le_of_ble_eq_true rfl⟩

theorem abortAll (tag : Byte) : Statement (.abortAll tag) := by
  intro _ tag' r e
  cases r <;> cases e
  exact ⟨rfl, Nat.le_of_ble_eq_true rfl⟩

theorem stepEnable (tag : Byte) : Statement (.stepEnable tag) := by
  intro _ tag' r e
  cases r <;> cases e
  exact ⟨rfl, Nat.le_of_ble_eq_true rfl⟩

theorem stepDisable (tag : Byte) : Statement (.stepDisable tag) := by
  intro _ tag' r e
  cases r <;> cases e
  exact ⟨rfl, Nat.le_of_ble_eq_true rfl⟩

theorem stepAdvance (tag : Byte) : Statement (.stepAdvance tag) := by
  intro _ tag' r e
  cases r <;> cases e
  exact ⟨rfl, Nat.le_of_ble_eq_true rfl⟩

theorem enroll (tag station : Byte) (mask : Half) : Statement (.enroll tag station mask) := by
  intro _ tag' r e
  cases r <;> cases e
  exact ⟨rfl, Nat.le_of_ble_eq_true rfl⟩

theorem withdraw (tag station : Byte) : Statement (.withdraw tag station) := by
  intro _ tag' r e
  cases r <;> cases e
  exact ⟨rfl, Nat.le_of_ble_eq_true rfl⟩

theorem restore (tag station : Byte) : Statement (.restore tag station) := by
  intro _ tag' r e
  cases r <;> cases e
  exact ⟨rfl, Nat.le_of_ble_eq_true rfl⟩

theorem setCauseMask (tag station : Byte) (mask : Half) :
    Statement (.setCauseMask tag station mask) := by
  intro _ tag' r e
  cases r <;> cases e
  exact ⟨rfl, Nat.le_of_ble_eq_true rfl⟩

theorem readStation (tag station : Byte) : Statement (.readStation tag station) := by
  intro _ tag' r e
  cases r <;> cases e
  exact ⟨rfl, Nat.le_of_ble_eq_true rfl⟩

theorem setThreshold (tag threshold : Byte) : Statement (.setThreshold tag threshold) := by
  intro _ tag' r e
  cases r <;> cases e
  exact ⟨rfl, Nat.le_of_ble_eq_true rfl⟩

theorem unmask (tag level : Byte) : Statement (.unmask tag level) := by
  intro _ tag' r e
  cases r <;> cases e
  exact ⟨rfl, Nat.le_of_ble_eq_true rfl⟩

theorem raise (tag level : Byte) : Statement (.raise tag level) := by
  intro _ tag' r e
  cases r <;> cases e
  exact ⟨rfl, Nat.le_of_ble_eq_true rfl⟩

theorem setLoopAttention (tag level : Byte) (stations : BitVec 32) (cause : Byte) :
    Statement (.setLoopAttention tag level stations cause) := by
  intro _ tag' r e
  cases r <;> cases e
  exact ⟨rfl, Nat.le_of_ble_eq_true rfl⟩

theorem readAttention (tag : Byte) : Statement (.readAttention tag) := by
  intro _ tag' r e
  cases r <;> cases e
  exact ⟨rfl, Nat.le_of_ble_eq_true rfl⟩

theorem setTimer (tag timer source : Byte) (reload : Half) (softLevel flags : Byte) :
    Statement (.setTimer tag timer source reload softLevel flags) := by
  intro _ tag' r e
  cases r <;> cases e
  exact ⟨rfl, Nat.le_of_ble_eq_true rfl⟩

theorem readTimers (tag clearTallies : Byte) : Statement (.readTimers tag clearTallies) := by
  intro _ tag' r e
  cases r <;> cases e
  exact ⟨rfl, Nat.le_of_ble_eq_true rfl⟩

theorem setMode (tag target : Byte) : Statement (.setMode tag target) := by
  intro _ tag' r e
  cases r <;> cases e
  exact ⟨rfl, Nat.le_of_ble_eq_true rfl⟩

theorem reset (tag : Byte) : Statement (.reset tag) := by
  intro _ tag' r e
  cases r <;> cases e
  exact ⟨rfl, Nat.le_of_ble_eq_true rfl⟩

theorem clearCause (tag : Byte) : Statement (.clearCause tag) := by
  intro _ tag' r e
  cases r <;> cases e
  exact ⟨rfl, Nat.le_of_ble_eq_true rfl⟩

theorem fetch (tag count : Byte) : Statement (.fetch tag count) := by
  intro _ tag' r e
  cases r <;> cases e
  exact ⟨rfl, Nat.le_of_ble_eq_true rfl⟩

theorem readFault (tag : Byte) : Statement (.readFault tag) := by
  intro _ tag' r e
  cases r <;> cases e
  exact ⟨rfl, Nat.le_of_ble_eq_true rfl⟩

theorem clearFault (tag : Meeting Byte) : Statement (.clearFault tag) := by
  intro _ tag' r e
  cases r <;> cases e
  exact ⟨rfl, Nat.le_of_ble_eq_true rfl⟩

theorem writeSettings (tag mask : Byte) (values : List Byte) :
    Statement (.writeSettings tag mask values) := by
  intro h tag' r e
  cases r <;> cases e
  have k : values.length = namedCount mask := by
    simpa [Instr.wellFormed, WellFormed.settingsValues] using h
  have m := namedCount_le mask
  exact ⟨h, by simp only [Request.body, List.length_cons]; omega⟩

theorem readSettings (tag : Byte) : Statement (.readSettings tag) := by
  intro _ tag' r e
  cases r <;> cases e
  exact ⟨rfl, Nat.le_of_ble_eq_true rfl⟩

theorem identify (tag : Byte) : Statement (.identify tag) := by
  intro _ tag' r e
  cases r <;> cases e
  exact ⟨rfl, Nat.le_of_ble_eq_true rfl⟩

theorem status (tag : Byte) : Statement (.status tag) := by
  intro _ tag' r e
  cases r <;> cases e
  exact ⟨rfl, Nat.le_of_ble_eq_true rfl⟩

theorem unknownKind (tag kind : Byte) (body : List Byte) :
    Statement (.unknownKind tag kind body) := by
  intro _ tag' r e
  cases r <;> cases e

theorem requestFrameComplete (check : Character) : Statement (.requestFrameComplete check) := by
  intro _ tag' r e
  cases r <;> cases e

theorem replyEnd : Statement .replyEnd := by
  intro _ tag' r e
  cases r <;> cases e

theorem interByteTimeout : Statement .interByteTimeout := by
  intro _ tag' r e
  cases r <;> cases e

theorem controlPortFramingError : Statement .controlPortFramingError := by
  intro _ tag' r e
  cases r <;> cases e

theorem lenOutOfRange (len : Character) : Statement (.lenOutOfRange len) := by
  intro _ tag' r e
  cases r <;> cases e

theorem hostSilenceExpiry : Statement .hostSilenceExpiry := by
  intro _ tag' r e
  cases r <;> cases e

theorem takeCandidate (lineActive : Bool) (upset : Meeting Upset) :
    Statement (.takeCandidate lineActive upset) := by
  intro _ tag' r e
  cases r <;> cases e

theorem lineBecomesIdle : Statement .lineBecomesIdle := by
  intro _ tag' r e
  cases r <;> cases e

theorem lineTestExpiry : Statement .lineTestExpiry := by
  intro _ tag' r e
  cases r <;> cases e

theorem commandSent : Statement .commandSent := by
  intro _ tag' r e
  cases r <;> cases e

theorem replyWindowExpiry : Statement .replyWindowExpiry := by
  intro _ tag' r e
  cases r <;> cases e

theorem replyStart : Statement .replyStart := by
  intro _ tag' r e
  cases r <;> cases e

theorem replyComplete (characters : List Character) : Statement (.replyComplete characters) := by
  intro _ tag' r e
  cases r <;> cases e

theorem replyStall : Statement .replyStall := by
  intro _ tag' r e
  cases r <;> cases e

theorem replyFramingError : Statement .replyFramingError := by
  intro _ tag' r e
  cases r <;> cases e

theorem replyNoStartMark (first : Character) : Statement (.replyNoStartMark first) := by
  intro _ tag' r e
  cases r <;> cases e

theorem replyLengthAbove16 (lengthCharacter : Character) :
    Statement (.replyLengthAbove16 lengthCharacter) := by
  intro _ tag' r e
  cases r <;> cases e

theorem rollCallOpening : Statement .rollCallOpening := by
  intro _ tag' r e
  cases r <;> cases e

theorem rollCallComplete (values checks : RollSamples) :
    Statement (.rollCallComplete values checks) := by
  intro _ tag' r e
  cases r <;> cases e

theorem rollCallBroken (period : Fin 63) (values checks : RollSamples) :
    Statement (.rollCallBroken period values checks) := by
  intro _ tag' r e
  cases r <;> cases e

theorem broadcastGapExpiry : Statement .broadcastGapExpiry := by
  intro _ tag' r e
  cases r <;> cases e

theorem timerUnderflow (timer : TimerId) : Statement (.timerUnderflow timer) := by
  intro _ tag' r e
  cases r <;> cases e

theorem attentionLineChange (level : LineId) (asserted : Bool) :
    Statement (.attentionLineChange level asserted) := by
  intro _ tag' r e
  cases r <;> cases e

theorem attentionFilterExpiry (level : LineId) : Statement (.attentionFilterExpiry level) := by
  intro _ tag' r e
  cases r <;> cases e

theorem softAttentionReport (level : SoftId) : Statement (.softAttentionReport level) := by
  intro _ tag' r e
  cases r <;> cases e

theorem dormantCrystalStop : Statement .dormantCrystalStop := by
  intro _ tag' r e
  cases r <;> cases e

theorem rxdActivity : Statement .rxdActivity := by
  intro _ tag' r e
  cases r <;> cases e

theorem wakeComplete : Statement .wakeComplete := by
  intro _ tag' r e
  cases r <;> cases e

theorem wakeCrystalTimeout : Statement .wakeCrystalTimeout := by
  intro _ tag' r e
  cases r <;> cases e

theorem crystalLoss : Statement .crystalLoss := by
  intro _ tag' r e
  cases r <;> cases e

theorem crystalStable : Statement .crystalStable := by
  intro _ tag' r e
  cases r <;> cases e

theorem startupCrystalStable : Statement .startupCrystalStable := by
  intro _ tag' r e
  cases r <;> cases e

theorem crystalStartTimeout : Statement .crystalStartTimeout := by
  intro _ tag' r e
  cases r <;> cases e

theorem powerReset : Statement .powerReset := by
  intro _ tag' r e
  cases r <;> cases e

theorem powerResetDelayExpiry : Statement .powerResetDelayExpiry := by
  intro _ tag' r e
  cases r <;> cases e

theorem pinReset : Statement .pinReset := by
  intro _ tag' r e
  cases r <;> cases e

theorem resetPinNegated : Statement .resetPinNegated := by
  intro _ tag' r e
  cases r <;> cases e

theorem commandReset : Statement .commandReset := by
  intro _ tag' r e
  cases r <;> cases e

theorem timeBaseTick (divider : Divider) : Statement (.timeBaseTick divider) := by
  intro _ tag' r e
  cases r <;> cases e

theorem requestByteReceived (character : Character) : Statement (.requestByteReceived character) := by
  intro _ tag' r e
  cases r <;> cases e

theorem supplyRisesAboveTripLevel : Statement .supplyRisesAboveTripLevel := by
  intro _ tag' r e
  cases r <;> cases e

theorem resetPinAsserted : Statement .resetPinAsserted := by
  intro _ tag' r e
  cases r <;> cases e

end Sys2Proof.Laws.FrameFits
end

