-- ==== Sys2Proof/Laws/Requests.lean ====
section
/-! SUPPORT. What the control port does with a whole request frame, said once, and the numbers that a byte
names. -/

namespace Sys2Proof.Machine

open Sys2Proof Sys2Proof.Safety

/-! ## The numbers a byte names -/

theorem slotOf_byte (i : SlotId) : slotOf (byte i.val) = some i := by revert i; decide
theorem stationOf_byte (i : StationId) : stationOf (byte i.val) = some i := by revert i; decide
theorem addressOf_byte (i : Address) : addressOf (byte i.val) = some i := by revert i; decide
theorem timerOf_byte (i : TimerId) : timerOf (byte i.val) = some i := by revert i; decide
theorem lineOf_byte (i : LineId) : lineOf (byte (4 + i.val)) = some i := by revert i; decide
theorem softOf_byte (i : SoftId) : softOf (byte (1 + i.val)) = some i := by revert i; decide
theorem mode_ofCode_code (m : Mode) : Mode.ofCode m.code = some m := by cases m <;> rfl
theorem station?_address (st : StationId) : Address.station? (stationAddress st) = some st := by
  revert st; decide

theorem slotOf_big (n : Byte) (h : 24 ≤ n.toNat) : slotOf n = none := by simp [slotOf]; omega
theorem stationOf_big (n : Byte) (h : 31 ≤ n.toNat) : stationOf n = none := by simp [stationOf]; omega
theorem timerOf_big (n : Byte) (h : 8 ≤ n.toNat) : timerOf n = none := by simp [timerOf]; omega
theorem lineOf_other (n : Byte) (h : n.toNat < 4 ∨ 8 ≤ n.toNat) : lineOf n = none := by
  simp [lineOf]; omega
theorem softOf_other (n : Byte) (h : n.toNat = 0 ∨ 4 ≤ n.toNat) : softOf n = none := by
  simp [softOf]; omega

/-! ## A request frame at a free port -/

/-- The KIND of every request is a code of TABLE 10-2. -/
theorem kind_isRequestKind (r : Request) : isRequestKind (Request.kind r) = true := by cases r <;> rfl

theorem exec_commandOf (tag : Byte) (r : Request) (s : State) :
    exec (commandOf tag r) s = .next (s.receive tag r) := by
  cases r <;> rfl

/-- The frame reaches its judging with nothing else in the way. -/
theorem receive_free (tag : Byte) (r : Request) (s : State) (hf : PortFree s)
    (hk : isRequestKind (Request.kind r) = true)
    (hb : readBody (Request.kind r) (Request.body r) = some r) :
    s.receive tag r =
      if s.mode = .halted ∧ Request.takenInHalted r = false then
        replied (requestFrame tag r) .halted [] (arrived (requestFrame tag r) s)
      else
        replied (requestFrame tag r) (serve r (arrived (requestFrame tag r) s)).2.1
          (serve r (arrived (requestFrame tag r) s)).2.2
          (serve r (arrived (requestFrame tag r) s)).1 := by
  obtain ⟨h1, h2, h3, h4⟩ := hf
  have hm : ({ s with
      intake := .search
      holding := [goodFrame (Request.kind r) tag (Request.body r)] } : State).restartSilence
      = arrived (requestFrame tag r) s := by
    simp only [State.restartSilence, arrived, requestFrame]
    split <;> simp_all
  simp only [State.receive, State.frameArrives, h1, h2, h3, h4, if_true, List.length_nil,
    List.nil_append, Option.isNone_none, State.takeHead]
  simp only [goodFrame, h2, h4] at hm
  simp only [judge, goodFrame, hk, hb, ne_eq, not_true_eq_false, if_false, reduceCtorEq,
    show (0 : Nat) < 2 by decide, if_true, hm, answer]
  split <;> rfl

/-- A request that its owner takes is answered with the owner's status and body. -/
theorem answered_of_serve (tag : Byte) (r : Request) (s : State) (status : Status) (body : List Byte)
    (change : State → State) (hf : PortFree s) (hk : isRequestKind (Request.kind r) = true)
    (hb : readBody (Request.kind r) (Request.body r) = some r)
    (hh : s.mode ≠ .halted ∨ Request.takenInHalted r = true)
    (hs : serve r (arrived (requestFrame tag r) s) =
      (change (arrived (requestFrame tag r) s), status, body)) :
    Answered (commandOf tag r) tag r s status body change := by
  have hn : ¬ (s.mode = .halted ∧ Request.takenInHalted r = false) := by
    rcases hh with h | h <;> simp [h]
  unfold Answered
  rw [exec_commandOf, receive_free tag r s hf hk hb, if_neg hn, hs]

/-- In HALTED a request that is not taken is answered HALTED. -/
theorem answered_of_halted (tag : Byte) (r : Request) (s : State) (hf : PortFree s)
    (hk : isRequestKind (Request.kind r) = true)
    (hb : readBody (Request.kind r) (Request.body r) = some r) (hh : s.mode = .halted)
    (ht : Request.takenInHalted r = false) :
    Answered (commandOf tag r) tag r s .halted [] (fun t => t) := by
  unfold Answered
  rw [exec_commandOf, receive_free tag r s hf hk hb, if_pos ⟨hh, ht⟩]

end Sys2Proof.Machine
end

