-- ==== Sys2Proof/Laws/RollCalls.lean ====
section
/-! SUPPORT. The slots and the release checks of a roll-call response, read back from its samples. -/

namespace Sys2Proof.Machine

theorem wordOf_bit (asserted : StationId → Bool) (n : StationId) :
    (wordOf asserted).getLsbD n.val = asserted n := by
  have bits : ∀ l : List StationId, ∀ w : StationSet, (l.foldl
      (fun w n => w ||| (if asserted n then (1 : StationSet) <<< n.val else 0)) w).getLsbD n.val =
        (w.getLsbD n.val || (decide (n ∈ l) && asserted n)) := by
    have one : ∀ (k : StationId) (b : Bool),
        (if b then (1 : StationSet) <<< k.val else 0).getLsbD n.val = (decide (n = k) && b) := by
      revert n; decide +kernel
    intro l
    induction l with
    | nil => intro w; simp
    | cons k l ih =>
      intro w
      rw [List.foldl_cons, ih, BitVec.getLsbD_or, one]
      by_cases h : n = k
      · subst h
        cases asserted n <;> simp
      · simp [h]
  rw [wordOf, bits]
  simp [allStations, List.mem_finRange]

theorem presenceWord_bit (values : RollSamples) (n : StationId) :
    (presenceWord values).getLsbD n.val = decide (values[n.val + 1] = .active) := wordOf_bit _ n

theorem mirrorWord_bit (values : RollSamples) (k : StationId) :
    (mirrorWord values).getLsbD k.val = decide (values[k.val + 32] = .active) := wordOf_bit _ k

/-- Every release check passes exactly where no period breaks the roll. -/
theorem firstBreak_eq_none (checks : RollSamples) :
    firstBreak checks = none ↔ ∀ p : Fin 63, checks[p] = .idle := by
  have level : ∀ l : LineLevel, l ≠ .active ↔ l = .idle := by intro l; cases l <;> decide
  simp only [firstBreak, List.find?_eq_none, List.mem_finRange, true_imp_iff, decide_eq_true_eq]
  exact forall_congr' (fun p => level _)

/-- The period that breaks a roll is the first whose release check fails. -/
theorem firstBreak_eq_some (checks : RollSamples) (period : Fin 63) :
    firstBreak checks = some period ↔
      checks[period] = .active ∧ ∀ p : Fin 63, p < period → checks[p] = .idle := by
  have level : ∀ l : LineLevel, ¬ l = .active ↔ l = .idle := by intro l; cases l <;> decide
  simp only [firstBreak, List.find?_eq_some_iff_getElem, decide_eq_true_eq, List.getElem_finRange,
    Bool.not_eq_true', decide_eq_false_iff_not, List.length_finRange]
  refine and_congr_right (fun _ => ⟨?_, fun before => ⟨period.val, period.isLt, rfl, fun k early => ?_⟩⟩)
  · rintro ⟨k, inside, rfl, before⟩ p early
    exact (level _).1 (before p.val early)
  · exact (level _).2 (before ⟨k, by omega⟩ early)

theorem rollOutcome_released (values checks : RollSamples) (h : firstBreak checks = none) :
    rollOutcome values checks =
      .rollResult (rollVerdict (presenceWord values) (mirrorWord values)) (presenceWord values)
        (mirrorWord values) := by
  simp [rollOutcome, h]

theorem rollOutcome_broken (values checks : RollSamples) (period : Fin 63)
    (h : firstBreak checks = some period) :
    rollOutcome values checks =
      .rollResult .garbled (brokenWords period (presenceWord values) (mirrorWord values)).1
        (brokenWords period (presenceWord values) (mirrorWord values)).2 := by
  simp [rollOutcome, h]

end Sys2Proof.Machine
end

