-- ==== Sys2Proof/Laws/Tables.lean ====
section
/-! SUPPORT. The tables after one record is written, the armed counts, and what the folds over the slot
table leave in each slot. -/

namespace Sys2Proof.Machine

open Sys2Proof Sys2Proof.Safety

/-! ## One record written -/

theorem slot_set (v : Vector Slot 24) (i j : SlotId) (r : Slot) :
    (v.set i r)[j] = if i = j then r else v[j] := by
  by_cases h : i = j
  · subst h; simp
  · simp [Fin.val_ne_of_ne h, h]

theorem station_set (v : Vector Station 31) (i j : StationId) (e : Station) :
    (v.set i e)[j] = if i = j then e else v[j] := by
  by_cases h : i = j
  · subst h; simp
  · simp [Fin.val_ne_of_ne h, h]

theorem line_set (v : Vector Line 4) (i j : LineId) (r : Line) :
    (v.set i r)[j] = if i = j then r else v[j] := by
  by_cases h : i = j
  · subst h; simp
  · simp [Fin.val_ne_of_ne h, h]

theorem timer_set (v : Vector Timer 8) (i j : TimerId) (r : Timer) :
    (v.set i r)[j] = if i = j then r else v[j] := by
  by_cases h : i = j
  · subst h; simp
  · simp [Fin.val_ne_of_ne h, h]

/-- A write that keeps a field of the record keeps it everywhere. -/
theorem set_keeps {α β : Type} {n : Nat} (f : α → β) (v : Vector α n) (i j : Fin n) (r : α)
    (h : f r = f v[i]) : f (v.set i r)[j] = f v[j] := by
  by_cases hij : i = j
  · subst hij; simpa using h
  · simp [Fin.val_ne_of_ne hij]

/-! ## Armed counts -/

theorem raiseArmed_recount (s : State) (a : Address) :
    s.raiseArmed a = { s with stations := recount s.stations a (fun n => n + 1) } := by
  cases h : Address.station? a
  · simp only [State.raiseArmed, recount, h]
  · simp only [State.raiseArmed, recount, h]; rfl

theorem lowerArmed_recount (s : State) (a : Address) :
    s.lowerArmed a = { s with stations := recount s.stations a (fun n => n - 1) } := by
  cases h : Address.station? a
  · simp only [State.lowerArmed, recount, h]
  · simp only [State.lowerArmed, recount, h]; rfl

theorem address_of_station? (a : Address) (st : StationId) (h : Address.station? a = some st) :
    a = stationAddress st := by
  revert a st; decide

theorem recount_armed (v : Vector Station 31) (a : Address) (f : Nat → Nat) (k : StationId) :
    (recount v a f)[k].armed = if a = stationAddress k then f v[k].armed else v[k].armed := by
  unfold recount
  split
  · rename_i h
    rw [if_neg]
    intro q
    subst q
    rw [station?_address] at h
    cases h
  · rename_i st h
    have ha := address_of_station? _ _ h
    rw [station_set]
    by_cases hk : st = k
    · subst hk; rw [if_pos rfl, if_pos ha]
    · rw [if_neg hk, if_neg]
      intro q
      rw [q, station?_address] at h
      exact hk (Option.some.inj h).symm

theorem recount_state (v : Vector Station 31) (a : Address) (f : Nat → Nat) (k : StationId) :
    (recount v a f)[k].state = v[k].state := by
  unfold recount
  split
  · rfl
  · exact set_keeps Station.state _ _ _ _ rfl

theorem disarmTo_recount (s : State) (i : SlotId) (r : Slot) :
    s.disarmTo i r = { s with
      slots := s.slots.set i { r with codeAgrees := true }
      stations := recount s.stations s.slots[i].station (fun n => n - 1) } := by
  unfold State.disarmTo
  rw [lowerArmed_recount]
  rfl

/-! ## Disarming at entry to CONFIGURATION (R25) -/

theorem disarmAll_slots (s : State) (i : SlotId) :
    s.disarmAll.slots[i] = if s.slots[i].state.waits then
      { s.slots[i] with state := .loaded, codeAgrees := true } else s.slots[i] := by
  have gen : ∀ (l : List SlotId) (s : State), l.Nodup →
      (l.foldl (fun t i =>
        if t.slots[i].state.waits then t.disarmTo i { t.slots[i] with state := .loaded } else t)
        s).slots[i] =
      if i ∈ l ∧ s.slots[i].state.waits then
        { s.slots[i] with state := .loaded, codeAgrees := true } else s.slots[i] := by
    intro l
    induction l with
    | nil => intro s _; simp
    | cons a l ih =>
      intro s hn
      obtain ⟨h1, h2⟩ := List.nodup_cons.1 hn
      rw [List.foldl_cons, ih _ h2]
      by_cases ha : i = a
      · subst ha
        simp only [h1, false_and, if_false, List.mem_cons, true_or, true_and]
        split
        · rw [disarmTo_recount]; simp
        · rfl
      · have e : (if s.slots[a].state.waits then s.disarmTo a { s.slots[a] with state := .loaded }
            else s).slots[i] = s.slots[i] := by
          split
          · simp only [disarmTo_recount, slot_set, if_neg (fun q : a = i => ha q.symm)]
          · rfl
        rw [e]
        simp only [List.mem_cons, ha, false_or]
  have h := gen allSlots s (List.nodup_finRange 24)
  simp only [State.disarmAll]
  rw [h]
  simp [allSlots]

/-! ## Release by a timer (R13) -/

/-- What an underflow of timer n makes of one slot record. -/
def releasedBy (n : TimerId) (r : Slot) : Slot :=
  if r.trigger = some n then
    match r.state with
    | .waiting => { r with state := .ready, attempts := 0, codeAgrees := true }
    | .ready | .active =>
      if r.repeating then { r with late := min 255 (r.late + 1), codeAgrees := true } else r
    | .empty | .loaded | .done | .failed | .aborted => r
  else r

theorem slot_set_self (v : Vector Slot 24) (i : SlotId) : v.set i v[i] = v := by
  apply Vector.ext
  intro j hj
  rw [Vector.getElem_set]
  split
  · rename_i h; subst h; rfl
  · rfl

theorem releaseSlot_slots (s : State) (n : TimerId) (i : SlotId) :
    (s.releaseSlot n i).slots = s.slots.set i (releasedBy n s.slots[i]) := by
  unfold State.releaseSlot releasedBy
  dsimp only
  generalize hr : s.slots[i] = r
  split
  · cases hst : r.state
    case waiting => rfl
    case ready =>
      dsimp only
      split
      · rfl
      · rw [← hr]; exact (slot_set_self _ _).symm
    case active =>
      dsimp only
      split
      · rfl
      · rw [← hr]; exact (slot_set_self _ _).symm
    all_goals (dsimp only; rw [← hr]; exact (slot_set_self _ _).symm)
  · rw [← hr]; exact (slot_set_self _ _).symm

theorem releaseAll_slots (n : TimerId) (l : List SlotId) :
    ∀ s : State, l.Nodup → ∀ j : SlotId,
      (l.foldl (fun t i => t.releaseSlot n i) s).slots[j] =
        if j ∈ l then releasedBy n s.slots[j] else s.slots[j] := by
  induction l with
  | nil => intro s _ j; simp
  | cons a l ih =>
    intro s hn j
    obtain ⟨h1, h2⟩ := List.nodup_cons.1 hn
    rw [List.foldl_cons, ih _ h2, releaseSlot_slots, slot_set]
    by_cases ha : a = j
    · subst ha; simp [h1]
    · have hj : ¬ j = a := fun q => ha q.symm
      simp [ha, hj]

end Sys2Proof.Machine
end

