-- ==== Sys2Proof/Laws/Timers.lean ====
section
/-! SUPPORT. What an underflow leaves in the timer records, the chain of CASCADE timers unrolled, and the
underflows that are due taken once. -/

namespace Sys2Proof.Machine

/-! ## One underflow -/

theorem releaseSlots_timers (s : State) (n : TimerId) : (s.releaseSlots n).timers = s.timers := by
  have h : ∀ (l : List SlotId) (s : State),
      (l.foldl (fun t i => t.releaseSlot n i) s).timers = s.timers := by
    intro l
    induction l with
    | nil => intro s; rfl
    | cons a l ih =>
      intro s
      have k := releaseSlot_only s n a
      unfold OnlySlots at k
      rw [List.foldl_cons, ih, k]
  unfold State.releaseSlots
  split
  · rfl
  · exact h _ _

theorem addTimerOrigin_timers (s : State) (n : TimerId) : (s.addTimerOrigin n).timers = s.timers := by
  unfold State.addTimerOrigin
  split
  · rfl
  · have h := addOrigin_only s
    unfold OnlySoft at h
    rw [h]

theorem timerWakes_timers (s : State) (n : TimerId) : (s.timerWakes n).timers = s.timers := by
  unfold State.timerWakes State.tellWake
  split
  · split <;> rfl
  · rfl

/-- An underflow writes its own record and no other (R123). -/
theorem handOut_timers (s : State) (n : TimerId) :
    (s.handOut n).timers = s.timers.set n s.timers[n].atUnderflow := by
  unfold State.handOut
  rw [timerWakes_timers, addTimerOrigin_timers, releaseSlots_timers]
  rfl

/-! ## The chain -/

/-- Any two bounds long enough give the same chain. -/
theorem underflow_bound (k : Nat) : ∀ (s : State) (n : TimerId) (a b : Nat), 8 - n.val ≤ a →
    8 - n.val ≤ b → k = 8 - n.val → State.underflow a s n = State.underflow b s n := by
  induction k with
  | zero => intro s n a b _ _ h; have := n.isLt; omega
  | succ k ih =>
    intro s n a b ha hb hk
    have hn := n.isLt
    obtain ⟨a, rfl⟩ : ∃ a', a = a' + 1 := ⟨a - 1, by omega⟩
    obtain ⟨b, rfl⟩ : ∃ b', b = b' + 1 := ⟨b - 1, by omega⟩
    unfold State.underflow
    dsimp only
    split
    · split
      · split
        · rfl
        · exact ih _ _ _ _ (by dsimp; omega) (by dsimp; omega) (by dsimp; omega)
      · rfl
    · rfl

/-- The chain of R125, one link at a time. -/
theorem takeUnderflow_eq (s : State) (n : TimerId) : s.takeUnderflow n =
    if h : n.val + 1 < 8 then
      let m : TimerId := ⟨n.val + 1, h⟩
      if (s.handOut n).timers[m].source = .cascade ∧ (s.handOut n).timers[m].enabled then
        if 1 < (s.handOut n).timers[m].count then
          (s.handOut n).writeTimer m
            { (s.handOut n).timers[m] with count := (s.handOut n).timers[m].count - 1 }
        else (s.handOut n).takeUnderflow m
      else s.handOut n
    else s.handOut n := by
  unfold State.takeUnderflow
  rw [State.underflow]
  dsimp only
  split
  · split
    · split
      · rfl
      · exact underflow_bound _ _ _ _ _ (by dsimp; omega) (by dsimp; omega) rfl
    · rfl
  · rfl

/-! ## Underflows that are due -/

theorem underflow_due (fuel : Nat) : ∀ (s : State) (n : TimerId),
    (∀ k : TimerId, s.timers[k].due = false → (State.underflow fuel s n).timers[k].due = false) ∧
    (fuel ≠ 0 → (State.underflow fuel s n).timers[n].due = false) := by
  induction fuel with
  | zero => intro s n; exact ⟨fun k h => h, fun h => absurd rfl h⟩
  | succ fuel ih =>
    intro s n
    have h1 : ∀ k : TimerId, (s.timers[k].due = false ∨ k = n) →
        (s.handOut n).timers[k].due = false := by
      intro k hk
      rw [handOut_timers, timer_set]
      split
      · rfl
      · rename_i hne
        rcases hk with hk | hk
        · exact hk
        · exact absurd hk.symm hne
    have h2 : ∀ k : TimerId, (s.handOut n).timers[k].due = false →
        (State.underflow (fuel + 1) s n).timers[k].due = false := by
      intro k hk
      unfold State.underflow
      dsimp only
      split
      · split
        · split
          · refine (congrArg Timer.due (timer_set (s.handOut n).timers _ k _)).trans ?_
            split
            · rename_i hmk; subst hmk; exact hk
            · exact hk
          · exact (ih _ _).1 k hk
        · exact hk
      · exact hk
    exact ⟨fun k h => h2 k (h1 k (.inl h)), fun _ => h2 n (h1 n (.inr rfl))⟩

/-- With no underflow due, taking them changes nothing. -/
theorem takeDue_none (s : State) (h : ∀ n : TimerId, s.timers[n].due = false) : s.takeDue = s := by
  have k : ∀ l : List TimerId,
      l.foldl (fun t n => if t.timers[n].due then t.takeUnderflow n else t) s = s := by
    intro l
    induction l with
    | nil => rfl
    | cons a l ih => rw [List.foldl_cons, if_neg (by rw [h a]; decide)]; exact ih
  exact k _

/-- Taking the underflows that are due leaves none. -/
theorem takeDue_due (s : State) (k : TimerId) : s.takeDue.timers[k].due = false := by
  have h : ∀ (l : List TimerId) (s : State), (k ∈ l ∨ s.timers[k].due = false) →
      (l.foldl (fun t n => if t.timers[n].due then t.takeUnderflow n else t) s).timers[k].due =
        false := by
    intro l
    induction l with
    | nil =>
      intro s h
      rcases h with h | h
      · cases h
      · exact h
    | cons a l ih =>
      intro s h
      rw [List.foldl_cons]
      apply ih
      by_cases ha : s.timers[a].due = true
      · rw [if_pos ha]
        rcases h with h | h
        · rcases List.mem_cons.1 h with h | h
          · subst h; exact .inr ((underflow_due 8 s k).2 (by decide))
          · exact .inl h
        · exact .inr ((underflow_due 8 s a).1 k h)
      · rw [if_neg ha]
        rcases h with h | h
        · rcases List.mem_cons.1 h with h | h
          · subst h; exact .inr (by simpa using ha)
          · exact .inl h
        · exact .inr h
  exact h allTimers s (.inl (List.mem_finRange k))

end Sys2Proof.Machine
end

