-- ==== Sys2Proof/Tests/Slice0.lean ====
section
/-! SUPPORT. Tests: a command that each check of WellFormed refuses, values computed by hand from the spec,
and for every claim with hypotheses a state and operands that meet them, at the borders of their ranges. -/

namespace Sys2Proof.Tests

open Sys2Proof Sys2Proof.Machine Sys2Proof.Safety

/-! ## Small states -/

/-- The part after start-up on the crystal, in a mode, with everything else as reset leaves it. -/
def live (m : Mode) : State :=
  { State.reset with
    startUp := .done, crystal := .stable, clockSource := .crystal, monitorRunning := true
    mode := m, dispatcher := if m.traffic then .idle else .stopped }

def withSlot (i : SlotId) (r : Slot) (s : State) : State := { s with slots := s.slots.set i r }

def withStation (st : StationId) (e : Station) (s : State) : State :=
  { s with stations := s.stations.set st e }

def withLine (l : LineId) (r : Line) (s : State) : State := { s with lines := s.lines.set l r }

def withTimer (n : TimerId) (r : Timer) (s : State) : State := { s with timers := s.timers.set n r }

def inState (state : SlotState) (a : Address) : Slot := { Slot.reset with state := state, station := a }

def good : Station := { Station.reset with state := .good }

/-- An exchange in a phase. -/
def exchange (k : ExchangeKind) (slot : Option SlotId) (a : Address) (l : Option LineId)
    (c : LinkCommand) (p : Phase) : Exchange :=
  { kind := k, slot := slot, station := a, level := l, command := c, toggle := false, phase := p
    stepPending := false, payload := [] }

/-- The part with an exchange on the link. -/
def busy (m : Mode) (x : Exchange) : State :=
  { live m with dispatcher := .busy, exchange := some x, reserved := 3 }

/-- A WRITE of slot 3 to station 5. -/
def writing (p : Phase) : Exchange := exchange .slot (some 3) 5 none .write p

/-- Slot 3 ACTIVE for station 5, which is GOOD. -/
def flying (m : Mode) (p : Phase) : State :=
  withStation 5 { good with armed := 1 } (withSlot 3 { inState .active 5 with attempts := 1 }
    (busy m (writing p)))

/-- A character of zeros whose stop bit samples at the active level. -/
def broken : Character := { sampled 0 with stop := .active }

/-- Samples of a roll call at the active level in the periods listed. -/
def samples (active : List Nat) : RollSamples :=
  Vector.ofFn (fun p => if p.val ∈ active then .active else .idle)

def aFault : FaultRecord := faultOf .crystalLost 0 .run .idle none

/-! ## A command that each check refuses -/

theorem test_ill_formed_load_payload :
    Instr.wellFormed (.loadSlot 0 0 0 1 0 0 0 0 (List.replicate 58 0)) = false := by decide
theorem test_ill_formed_settings_values : Instr.wellFormed (.writeSettings 0 0x12 [1]) = false := by
  decide
theorem test_ill_formed_other_kind : Instr.wellFormed (.unknownKind 0 0x7B []) = false := by decide
theorem test_ill_formed_frame_body :
    Instr.wellFormed (.unknownKind 0 0x7C (List.replicate 65 0)) = false := by decide
theorem test_ill_formed_len :
    Instr.wellFormed (.lenOutOfRange (sampled 2)) = false ∧
    Instr.wellFormed (.lenOutOfRange (sampled 66)) = false := by decide
theorem test_ill_formed_start_mark :
    Instr.wellFormed (.replyNoStartMark (sampled 0xC3)) = false := by decide
theorem test_ill_formed_length_field :
    Instr.wellFormed (.replyLengthAbove16 (sampled 0x90)) = false := by decide
theorem test_ill_formed_whole_reply :
    Instr.wellFormed (.replyComplete ([0xC3, 0x05, 0x01, 0, 0].map sampled)) = false := by
  decide
theorem test_ill_formed_stop_bit :
    [Instr.requestByteReceived broken, .requestFrameComplete broken, .lenOutOfRange broken,
      .replyNoStartMark broken, .replyLengthAbove16 { sampled 0x7F with stop := .active },
      .replyComplete ([0xC3, 0x05, 0x00, 0].map sampled ++ [broken])].all
        (fun i => !Instr.wellFormed i) = true := by decide
theorem test_ill_formed_rolls :
    [Instr.rollCallComplete (samples []) (samples [62]),
      .rollCallBroken 5 (samples [0]) (samples [4, 5]),
      .rollCallBroken 5 (samples [0]) (samples [])].all (fun i => !Instr.wellFormed i) = true := by
  decide +kernel
theorem test_well_formed :
    [Instr.replyComplete ([0xC3, 0x05, 0x01, 7, 0, 0].map sampled), .lenOutOfRange (sampled 1),
      .lenOutOfRange (sampled 67)].all Instr.wellFormed = true ∧
    Instr.wellFormed (.writeSettings 0 0x3F [0, 2, 1, 3, 0, 0xF0]) = true := by decide

/-! ## Values worked by hand -/

/-- R56: 0x05 on a line, start bit, 1 0 1 0 0 0 0 0, stop bit; and read from such levels. -/
theorem test_character_levels :
    characterLevels 0x05 =
      [.active, .idle, .active, .idle, .active, .active, .active, .active, .active, .idle] ∧
    (lineLevels [0xC3, 0x05]).length = 20 ∧ characterByte (sampled 0x05) = 0x05 ∧
    characterByte ⟨#v[.active, .idle, .idle, .idle, .idle, .idle, .idle, .active], .idle⟩ = 0x7E ∧
    goodBytes [sampled 1, sampled 2, broken, sampled 3] = [1, 2] := by decide

/-- The published check values of the two CRCs of R59 and R170, and the CHECK of STATUS with tag 9. -/
theorem test_crc_check_values :
    crc16 [0x31, 0x32, 0x33, 0x34, 0x35, 0x36, 0x37, 0x38, 0x39] = 0x29B1 ∧
    crc8 [0x31, 0x32, 0x33, 0x34, 0x35, 0x36, 0x37, 0x38, 0x39] = 0xF4 ∧
    frameCheck 0x7B 9 [] = 0xDC := by decide +kernel

/-- TABLE 11-7: WRITE (2) to station 5 with toggle 1 and one payload byte. -/
theorem test_command_frame :
    (commandFrame 5 .write true [0x99]).take 4 = [0xC3, 0x45, 0x81, 0x99] := by decide

/-- TABLE 11-4 and R178: multi-byte quantities leave low byte first. -/
theorem test_request_bodies :
    Request.body (.start 0x0A0B0C) = [0x0C, 0x0B, 0x0A] ∧
    Request.body (.enroll 3 0x1234) = [3, 0x34, 0x12] ∧
    Request.body (.setTimer 1 2 0x0FFF 3 7) = [1, 2, 0xFF, 0x0F, 3, 7] := by decide

/-- R43: slot n against slot 30 - n. -/
theorem test_mirror_word :
    rollVerdict 1 (1 <<< 30) = .consistent ∧ rollVerdict 1 1 = .mismatch := by decide +kernel

/-- TABLE 3-5 and TABLE 3-6, by the periods in which the stations drive; and the first of them broken by a
line held active in period 18. -/
theorem test_roll_tables :
    rollOutcome (samples [0, 3, 18, 45, 60]) (samples []) =
      .rollResult .consistent ((1 <<< 2) ||| (1 <<< 17)) ((1 <<< 28) ||| (1 <<< 13)) ∧
    rollOutcome (samples [0, 3, 19, 46, 60]) (samples []) =
      .rollResult .mismatch ((1 <<< 2) ||| (1 <<< 18)) ((1 <<< 28) ||| (1 <<< 14)) ∧
    rollOutcome (samples [0, 3, 18, 45, 60]) (samples [18, 20]) = .rollResult .garbled (1 <<< 2) 0 ∧
    firstBreak (samples []) = none ∧ firstBreak (samples [62]) = some 62 ∧
    firstBreak (samples [0, 1]) = some 0 := by decide +kernel

/-- R70: a break in period 2 leaves presence slot 0, in period 33 mirror slot 0. -/
theorem test_broken_words :
    brokenWords 1 (-1) (-1) = (0, 0) ∧ brokenWords 2 (-1) (-1) = (1, 0) ∧
    brokenWords 32 (-1) (-1) = (BitVec.allOnes 31, 0) ∧
    brokenWords 33 (-1) (-1) = (BitVec.allOnes 31, 1) := by decide

/-- TABLE 4-6 at its borders. -/
theorem test_score_borders :
    StationState.onScore .good 63 = .good ∧ StationState.onScore .good 64 = .suspect ∧
    StationState.onScore .suspect 128 = .silenced ∧ StationState.onScore .suspect 31 = .good ∧
    StationState.onScore .suspect 32 = .suspect ∧ StationState.onScore .silenced 96 = .silenced ∧
    StationState.onScore .silenced 95 = .suspect ∧ StationState.onScore .probing 240 = .lost ∧
    StationState.onScore .vacant 240 = .vacant := by decide

/-- LOAD SLOT at the borders of R7. -/
theorem test_load_slot_borders :
    (serveLoadSlot 23 31 4 3 7 7 3 (List.replicate 16 0) (live .run)).2.1 = .ok ∧
    (serveLoadSlot 0 31 2 0 0 0xFF 2 [] (live .run)).2.1 = .ok ∧
    [serveLoadSlot 24 0 2 0 0 0 0 [], serveLoadSlot 0 32 2 0 0 0 0 [], serveLoadSlot 0 0 0 0 0 0 0 [],
      serveLoadSlot 0 31 5 0 0 0 0 [], serveLoadSlot 0 30 4 0 0 0 0 [], serveLoadSlot 0 31 1 0 0 0 0 [],
      serveLoadSlot 0 0 2 0 0 0 0 (List.replicate 17 0), serveLoadSlot 0 0 2 4 0 0 0 [],
      serveLoadSlot 0 0 2 0 8 0 0 [], serveLoadSlot 0 0 2 0 0 8 0 [], serveLoadSlot 0 0 2 0 0 0xFE 0 [],
      serveLoadSlot 0 0 2 0 0 0 4 [], serveLoadSlot 0 0 2 0 0 0xFF 1 []].all
        (fun f => decide ((f (live .run)).2.1 = .badValue)) = true := by decide

/-- A SET TIMER at the borders of R127. -/
theorem test_set_timer_borders :
    (serveSetTimer 7 4 4095 3 7 (live .run)).2.1 = .ok ∧ (serveSetTimer 0 0 1 0 0 (live .run)).2.1 = .ok ∧
    [serveSetTimer 8 0 1 0 0, serveSetTimer 0 5 1 0 0, serveSetTimer 0 4 1 0 0, serveSetTimer 0 0 0 0 0,
      serveSetTimer 0 0 4096 0 0, serveSetTimer 0 0 1 4 0, serveSetTimer 0 0 1 0 8].all
        (fun f => decide ((f (live .run)).2.1 = .badValue)) = true := by decide

/-! ## Runs of a few commands -/

/-- ENROLL in HOLD, RUN, PROBE: station 2 becomes GOOD with its identity. -/
theorem test_probe_makes_good :
    let s := withStation 2 { Station.reset with state := .probing } (live .run)
    let t := afterCommand (.replyComplete ((replyFrame 2 0 false [0x11, 0x22]).map sampled))
      (afterCommand .replyStart (afterCommand .commandSent (afterCommand (.takeCandidate false (.alone .none)) s)))
    t.stations[(2 : StationId)] =
      { good with identity := some (0x11, 0x22), toggle := true } ∧
    t.reports.length = 1 ∧ t.dispatcher = .idle ∧ t.exchange = none := by decide +kernel

/-- A slot's WRITE answered ACK is DONE, with one COMPLETION report. -/
theorem test_slot_done :
    let t := afterCommand (.replyComplete ((replyFrame 5 0 false []).map sampled)) (flying .run .receiving)
    t.slots[(3 : SlotId)].state = .done ∧ t.stations[(5 : StationId)].armed = 0 ∧
    t.reports.length = 1 ∧ t.reserved = 0 := by decide +kernel

/-- A framing error in a reply ends the exchange GARBLED: the slot fails with BAD_REPLY.
Characters after a whole frame are not read. -/
theorem test_reply_with_framing_error :
    let outcome (rest : List Character) := ((afterCommand (.replyComplete
      ((replyFrame 5 0 false []).take 4 |>.map sampled |>.append rest))
      (flying .run .receiving)).slots[(3 : SlotId)]).outcome
    outcome [broken] = some .badReply ∧
    outcome (((replyFrame 5 0 false []).drop 4).map sampled ++ [broken]) = some .ok := by
  decide +kernel

/-- A whole STATUS frame, byte by byte, is answered; a second one behind it is held. -/
theorem test_bytes_of_a_frame :
    (requestBytes 9 .status).length = 5 ∧
    (match receiveAll (requestBytes 9 .status ++ requestBytes 8 .status) (live .run) with
      | .next t => decide (t.holding.length = 2) && t.reply.any (fun r => decide (r.tag = 9))
      | .fault _ => false
      | .refused _ => false) = true := by decide +kernel

/-- A second fault halts the part, and a third leaves the record. -/
theorem test_double_fault :
    let s := { live .hold with fault := some aFault }
    (afterCommand .crystalLoss s).mode = .halted ∧
    (afterCommand .crystalLoss s).fault = some { aFault with second := some .crystalLost } := by
  decide

/-- POWER reset and start-up without a crystal end in CONFIGURATION with a fault. -/
theorem test_start_up_without_crystal :
    let t := afterCommand .crystalStartTimeout (afterCommand .powerResetDelayExpiry
      (afterCommand .supplyRisesAboveTripLevel (afterCommand .powerReset (live .run))))
    t.mode = .configuration ∧ t.startUp = .done ∧ t.supply = .good ∧ t.fault.isSome = true := by
  decide

/-- A cascade: timer 0 underflows and its tick makes timer 1 underflow with it. -/
theorem test_cascade :
    let s := withTimer 1 { Timer.reset with enabled := true, source := .cascade, count := 1 }
      (withTimer 0 { Timer.reset with enabled := true, count := 1, due := true } (live .run))
    (afterCommand (.timerUnderflow 0) s).timers[(0 : TimerId)].tally = 1 ∧
    (afterCommand (.timerUnderflow 0) s).timers[(1 : TimerId)].tally = 1 := by decide +kernel

/-! ## Hypotheses met: the port -/

theorem test_meets_step : State.reset.pending = [] := rfl

theorem test_meets_requests :
    Request.wellFormed (.loadSlot 0 0 0 0 0 0 0 (List.replicate 57 0)) = true ∧
    Request.wellFormed (.writeSettings 0x3F [0, 0, 0, 0, 0, 0]) = true ∧
    Request.wellFormed (.writeSettings 0 []) = true ∧ Request.wellFormed .abortAll = true ∧
    (live .hold).takesFrames = true ∧ (live .hold).intake = .search := by decide

theorem test_meets_receiver :
    State.reset.takesFrames = false ∧ (live .run).takesFrames = true ∧
    (live .run).intake = .search ∧
    { live .run with intake := .length }.takesFrames = true ∧
    broken.stop = .active ∧ (sampled 66).stop = .idle ∧
    ([] : List Byte).length < 2 ∧ ([0] : List Byte).length < 2 ∧
    (∀ b ∈ ([0, 1, 67, 255] : List Byte), b.toNat < 2 ∨ 66 < b.toNat) ∧
    (∀ b ∈ ([2, 66] : List Byte), 2 ≤ b.toNat ∧ b.toNat ≤ 66) := by decide

theorem test_meets_completed :
    let s := { live .run with intake := .body 2 [0x7B, 1] }
    let r : Reply := ⟨0xFB, 0, .ok, []⟩
    let f := goodFrame 0x7B 0 []
    broken.stop = .active ∧ s.takesFrames = true ∧ s.overrun = none ∧ s.holding = [] ∧ s.reply = none ∧
    { s with reply := some r, holding := [f] }.holding.length < 2 ∧
    { s with reply := some r, holding := [f] }.reply ≠ none ∧
    2 ≤ { s with reply := some r, holding := [f, f] }.holding.length ∧
    { s with overrun := some ⟨1, 255⟩ }.overrun = some ⟨1, 255⟩ := by decide

theorem test_meets_judged :
    let f := goodFrame 0x7B 1 []
    (0 : Byte) ≠ frameCheck 0x7B 1 [] ∧ f.check = frameCheck f.kind f.tag f.body ∧
    isRequestKind 0x7B = true ∧ isRequestKind 0 = false ∧ isRequestKind 0x7C = false ∧
    readBody 0x7B [0] = none ∧ readBody 0x7B [] = some .status ∧
    readBody 6 [] = some .abortAll ∧ Request.takenInHalted .abortAll = false ∧
    Request.takenInHalted .status = true ∧ (live .halted).mode = .halted ∧
    (live .run).mode ≠ .halted := by decide +kernel

theorem test_meets_free_port :
    PortFree (live .configuration) ∧ PortFree (live .run) ∧ PortFree (live .hold) ∧
    PortFree (live .loopback) ∧ PortFree (live .halted) ∧ (live .run).mode ≠ .halted ∧
    isRequestKind 7 = false ∧ isRequestKind 255 = false := by decide

theorem test_meets_unknown_kind :
    (∀ r : Request, Request.kind r ≠ 7) ∧ ∀ r : Request, Request.kind r ≠ 0xFF :=
  ⟨fun r same => absurd (kind_isRequestKind r) (by rw [same]; decide),
    fun r same => absurd (kind_isRequestKind r) (by rw [same]; decide)⟩

theorem test_meets_halted :
    PortFree (live .halted) ∧ (live .halted).mode = .halted ∧ Request.wellFormed .abortAll = true ∧
    Request.abortAll ≠ .identify ∧ Request.abortAll ≠ .status ∧ Request.abortAll ≠ .readFault ∧
    Request.abortAll ≠ .reset := by decide

theorem test_meets_reply_end :
    let r : Reply := ⟨0xFB, 0, .ok, []⟩
    let o : Reply := ⟨0xFF, 0, .overrun, [1]⟩
    let f := goodFrame 0x7B 0 []
    let s := { live .run with reply := some r, holding := [f] }
    r.isReset = false ∧ o.isReset = false ∧ s.mode ≠ .dormant ∧ r.status ≠ .overrun ∧
    s.holding.tail = [] ∧ s.overrun = none ∧ { s with overrun := some ⟨1, 1⟩ }.holding.tail = [] ∧
    { s with holding := [f, f] }.holding.tail = [f] ∧
    { s with reply := some o, holding := [], overrun := some ⟨0, 1⟩ }.holding = [] := by
  decide +kernel

/-! ## Hypotheses met: slots -/

theorem test_meets_slot_states :
    let s := withSlot 1 (inState .waiting 0) (withSlot 2 (inState .ready 0)
      (withSlot 23 (inState .active 0) (live .run)))
    PortFree s ∧ s.mode ≠ .halted ∧ 24 ≤ (24 : Byte).toNat ∧ 31 ≤ (31 : Byte).toNat ∧
    s.slots[(0 : SlotId)].state.armed = false ∧ s.slots[(1 : SlotId)].state = .waiting ∧
    s.slots[(2 : SlotId)].state = .ready ∧ s.slots[(23 : SlotId)].state = .active ∧
    s.slots[(23 : SlotId)].state.armed = true := by decide

/-- A command, address, trigger and option that pass together, as LOAD SLOT's second part asks. -/
theorem test_meets_load :
    (SlotCommand.sync = .sync → (31 : Address) = 31) ∧ (SlotCommand.read = .read → (30 : Address) ≠ 31) ∧
    ((true : Bool) = true → (some 7 : Option TimerId) ≠ none) ∧ (List.replicate 16 (0 : Byte)).length ≤ 16 := by
  decide

theorem test_meets_lengths :
    State.reset.slots[(0 : SlotId)].payload.length ≤ 16 ∧
    (State.reset.slots[(0 : SlotId)].response.getD []).length ≤ 16 ∧
    (∀ l : LineId, State.reset.lines[l].serviceList.length ≤ 31) ∧
    (∀ l : LineId, (withLine 0 { Line.reset with serviceList := allStations }
      State.reset).lines[l].serviceList.length ≤ 31) := by decide

theorem test_meets_start :
    let s := withStation 2 { good with state := .lost } (withStation 3 good
      (withSlot 1 (inState .loaded 3) (withSlot 2 (inState .ready 3) (withSlot 3 (inState .loaded 1)
        (withSlot 4 (inState .loaded 2) (withSlot 5 (inState .done 31) (live .run)))))))
    PortFree s ∧ s.mode = .run ∧ (live .configuration).mode = .configuration ∧
    chosenSlots 0 = [] ∧ (chosenSlots 0x22).head? = some 1 ∧
    chosenSlots 0x3 = [] ++ 0 :: [1] ∧ s.slots[(0 : SlotId)].state = .empty ∧
    chosenSlots 0x6 = [1] ++ 2 :: [] ∧ s.slots[(1 : SlotId)].state = .loaded ∧
    s.slots[(1 : SlotId)].station = stationAddress 3 ∧ s.stations[(3 : StationId)].state = .good ∧
    s.slots[(2 : SlotId)].state.armed = true ∧
    s.slots[(3 : SlotId)].station = stationAddress 1 ∧ s.stations[(1 : StationId)].state = .vacant ∧
    s.slots[(4 : SlotId)].station = stationAddress 2 ∧ s.stations[(2 : StationId)].state = .lost ∧
    (∀ i ∈ chosenSlots 0x22, s.slots[i].state ≠ .empty ∧ s.slots[i].state.armed = false ∧
      ∀ st : StationId, s.slots[i].station = stationAddress st →
        s.stations[st].state ≠ .vacant ∧ s.stations[st].state ≠ .lost) := by decide

theorem test_meets_slot_end :
    let s := flying .run .receiving
    let t := withSlot 3 { s.slots[(3 : SlotId)] with retryLimit := 1, repeating := true, trigger := some 0 } s
    (t.slotEnd 3 .busy).slots[(3 : SlotId)].state = .ready ∧ t.slots[(3 : SlotId)].state ≠ .ready ∧
    (t.slotEnd 3 (.ack [])).slots[(3 : SlotId)].state = .waiting ∧
    s.slots[(3 : SlotId)].state = .active ∧ (writing .receiving).kind = .slot ∧
    (writing .receiving).slot = some 3 ∧ (exchange .probe none 7 none .probe .receiving).kind = .probe ∧
    (s.slotEnd 3 (.ack [])).slots[(3 : SlotId)].state.armed = false ∧ (4 : SlotId) ≠ 3 := by
  decide

/-! ## Hypotheses met: the dispatcher and the link -/

/-- Slot 3 READY at priority 3 for GOOD station 5; slot 4 READY at priority 0. -/
def offering : State :=
  { withStation 5 { good with armed := 2 } (withSlot 3 { inState .ready 5 with priority := 3 }
      (withSlot 4 (inState .ready 5) (live .run))) with ready := [3, 4] }

theorem test_meets_candidates :
    let s := offering
    let t := { s with ready := [4], threshold := 3 }
    let u := withLine 3 { Line.reset with state := .pending } t
    let v := withLine 3 { Line.reset with state := .serving, serviceList := [5] } t
    let w := withStation 0 { good with state := .probing } t
    s.ready = [] ++ 3 :: [4] ∧ s.slots[(3 : SlotId)].priority = 3 ∧ s.held 3 = false ∧
    (∀ j ∈ t.ready, t.slots[j].priority = 3 → t.held j = true) ∧
    (u.threshold.val < 4 + 3 ∧ u.lines[(3 : LineId)].state = .pending ∧ ∀ k : LineId, ¬ 3 < k) ∧
    (v.lines[(3 : LineId)].state = .serving ∧ v.lines[(3 : LineId)].serviceList = 5 :: []) ∧
    (∀ l : LineId, w.lines[l].state = .quiet) ∧ w.mode = .run ∧
    w.stations[(0 : StationId)].state = .probing ∧ t.slots[(4 : SlotId)].priority ≠ 3 ∧
    t.held 4 = false ∧ (∀ st : StationId, t.stations[st].state ≠ .probing) ∧
    (live .run).ready = [] ∧ (live .run).candidate = none := by decide

/-- The candidates are the records written out: a toggle of 1 for the station that has it next. -/
theorem test_meets_taking :
    let s := withStation 5 { good with armed := 2, toggle := true } offering
    let t := { live .run with threshold := 3 }
    let u := withLine 0 { Line.reset with state := .pending } t
    let v := withLine 0 { Line.reset with state := .serving, serviceList := [5] } (withStation 5 good t)
    let w := withStation 30 { good with state := .probing } { t with stepEnable := true }
    s.canStart = true ∧ s.slots[(3 : SlotId)].codeAgrees = true ∧
    s.candidate = some { exchange .slot (some 3) 5 none .write .sending with toggle := true } ∧
    u.canStart = true ∧
    u.candidate = some { exchange .roll none 31 (some 0) .roll .sending with payload := [4] } ∧
    v.canStart = true ∧
    v.candidate = some { exchange .cause none 5 (some 0) .cause .sending with payload := [4] } ∧
    w.canStart = true ∧
    w.candidate = some { exchange .probe none 30 none .probe .sending with stepPending := true } ∧
    w.stations[(30 : StationId)].codeAgrees = true := by decide

theorem test_meets_cancel :
    let s := offering
    let t := { s with fault := some aFault }
    s.canStart = true ∧ (s.candidate.map Exchange.kind) = some .slot ∧
    (s.candidate.bind Exchange.slot) = some 3 ∧ s.fault.all FaultRecord.retained = true ∧
    (s.candidate.map Exchange.station) = some (stationAddress 5) ∧
    s.slots[(3 : SlotId)].codeAgrees = true ∧ t.canStart = true ∧ t.exchange = none ∧
    (t.candidate.bind Exchange.slot) = some 3 ∧ t.fault = some aFault ∧
    (t.candidate.map Exchange.station) = some (stationAddress 5) ∧
    aFault.retained = false ∧ aFault.second = none ∧ s.monitorRunning = true ∧
    s.exchange = none := by decide

/-- R165: a crystal loss and a TABLE_CHECK of one moment halt the part in either order, and the record names
the first taken. A look that comes after the loss takes nothing. -/
theorem test_loss_meets_table_check :
    let first := afterCommand (.takeCandidate false (.behindLoss .slot)) offering
    let second := afterCommand .crystalLoss (afterCommand (.takeCandidate false (.alone .slot)) offering)
    let apart := afterCommand (.takeCandidate false (.alone .slot)) (afterCommand .crystalLoss offering)
    let kinds := fun s : State => (s.mode, s.fault.map FaultRecord.kind, s.fault.bind FaultRecord.second)
    kinds first = (.halted, some .crystalLost, some .tableCheck) ∧
    kinds second = (.halted, some .tableCheck, some .crystalLost) ∧
    kinds apart = (.hold, some .crystalLost, none) ∧ first.reports.length = 2 ∧
    first.slots[(3 : SlotId)].outcome = some .internal ∧ apart.slots[(3 : SlotId)].state = .ready := by
  decide +kernel

/-- R167: a CLEAR FAULT behind a crystal loss empties the record that the loss has filled, and is refused
where the loss halts the part; one that comes after the loss is discarded. -/
theorem test_loss_meets_clear_fault :
    let after := fun i : Instr => fun s : State => (afterCommand i s).fault.map FaultRecord.second
    after (.clearFault (.behindLoss 1)) (live .run) = none ∧
    (afterCommand (.clearFault (.behindLoss 1)) (live .run)).mode = .hold ∧
    after (.clearFault (.behindLoss 1)) { live .run with fault := some aFault } =
      some (some .crystalLost) ∧
    after (.clearFault (.alone 1)) (afterCommand .crystalLoss (live .run)) = some none := by decide +kernel

theorem test_meets_no_start :
    (live .hold).canStart = false ∧ (live .run).candidate = none ∧
    { live .run with reserved := 25 }.canStart = true ∧
    { live .run with reserved := 26 }.canStart = false := by decide

theorem test_meets_step_requests :
    let s := { live .run with dispatcher := .held }
    PortFree s ∧ s.dispatcher = .held ∧ (live .run).dispatcher ≠ .held := by decide

theorem test_meets_sending :
    let s := flying .run .sending
    s.exchange = some (writing .sending) ∧ (writing .sending).phase = .sending ∧ s.mode ≠ .loopback ∧
    s.lde = false ∧ { s with lde := true }.lde = true ∧
    { s with lde := true }.exchange = some (writing .sending) ∧
    (List.replicate 16 (0 : Byte)).length ≤ 16 := by decide

theorem test_meets_loop_answers :
    let roll := exchange .roll none 31 (some 0) .roll .sending
    let cause := exchange .cause none 5 (some 0) .cause .sending
    let s := withLine 0 { Line.reset with loopSet := 0x21, filtered := true } (busy .loopback cause)
    (flying .loopback .sending).exchange = some (writing .sending) ∧
    (writing .sending).station = stationAddress 5 ∧ roll.station = 31 ∧ roll.level = some 0 ∧
    (exchange .slot (some 0) 31 none .sync .sending).station = 31 ∧
    s.exchange = some cause ∧ cause.station = stationAddress 5 ∧ s.mode = .loopback ∧
    s.lines[(0 : LineId)].loopSet.getLsbD 5 = true ∧ s.lines[(0 : LineId)].loopSet.getLsbD 4 = false ∧
    s.lines[(0 : LineId)].filtered = true := by decide

theorem test_meets_phases :
    let roll (p : Phase) := exchange .roll none 31 (some 0) .roll p
    let gap := exchange .slot (some 0) 31 none .write .gap
    (flying .run .awaiting).exchange = some (writing .awaiting) ∧ (flying .run .awaiting).mode ≠ .loopback ∧
    (writing .awaiting).command ≠ .roll ∧ (busy .run (roll .awaiting)).exchange = some (roll .awaiting) ∧
    (roll .receiving).command = .roll ∧ gap.phase = .gap ∧ (busy .run gap).exchange = some gap ∧
    classifyReply (writing .receiving) (replyFrame 5 0 false []) = some (.ack []) ∧
    classifyReply (writing .receiving) ((replyFrame 5 0 false []).take 4) = none ∧
    classifyReply (writing .receiving) [] = none ∧ broken.stop = .active ∧
    characterByte broken ≠ 0xC3 ∧ 16 < (characterByte (sampled 17) &&& 0x7F).toNat ∧
    16 < (characterByte (sampled 0xFF) &&& 0x7F).toNat := by
  decide +kernel

theorem test_meets_loop_replies :
    let s := { flying .loopback .receiving with loopAnswer := some (.ack [1]) }
    let roll := exchange .roll none 31 (some 0) .roll .awaiting
    let t := { busy .loopback roll with loopAnswer := some (.roll 1 (1 <<< 30)) }
    s.mode = .loopback ∧ s.loopAnswer = some (.ack [1]) ∧ s.exchange = some (writing .receiving) ∧
    t.exchange = some roll ∧ t.loopAnswer = some (.roll 1 (1 <<< 30)) ∧ roll.phase = .awaiting ∧
    (busy .loopback roll).loopAnswer = none := by decide

theorem test_meets_loop_nak_and_gap :
    let cause (p : Phase) := exchange .cause none 5 (some 0) .cause p
    let s (p : Phase) := { busy .loopback (cause p) with loopAnswer := some (.nak 1) }
    let gap := exchange .slot (some 0) 31 none .sync .gap
    (s .awaiting).exchange = some (cause .awaiting) ∧ (s .awaiting).loopAnswer = some (.nak 1) ∧
    (s .receiving).exchange = some (cause .receiving) ∧ (cause .receiving).phase = .receiving ∧
    (cause .awaiting).command ≠ .roll ∧ (s .awaiting).mode = .loopback ∧
    (busy .loopback gap).exchange = some gap ∧ gap.phase = .gap := by decide

/-- The table of test 5 of R42 at its borders, for a frame of the exchange's own station and toggle. -/
theorem test_meets_fit :
    let reads (c : LinkCommand) (payload : List Byte) : Option Outcome :=
      classifyReply { writing .receiving with command := c } (replyFrame 5 0 false payload)
    let full : List Byte := List.replicate 16 0
    reads .write full = some (.ack full) ∧ reads .read [] = some (.ack []) ∧
    reads .probe [1, 2] = some (.ack [1, 2]) ∧ reads .probe [1] = some .garbled ∧
    reads .cause [15] = some (.ack [15]) ∧ reads .cause (15 :: full.take 8) = some (.ack (15 :: full.take 8)) ∧
    reads .cause (15 :: full.take 9) = some .garbled ∧ reads .cause [16] = some .garbled ∧
    reads .cause [] = some .garbled := by decide +kernel

theorem test_meets_classified :
    (List.replicate 16 (0 : Byte)).length ≤ 16 ∧ ([] : List Byte).length ≠ 1 ∧ [0] ≠ ([] : List Byte) ∧
    (6 : Address) ≠ (writing .receiving).station ∧ true ≠ (writing .receiving).toggle ∧
    linkCrc [5, 0] ≠ (0 : Byte) ++ (0 : Byte) ∧
    ((0 : Byte) &&& 0x7F).toNat = ([] : List Byte).length := by decide +kernel

theorem test_meets_verdict : rollVerdict 1 1 ≠ .consistent := by decide +kernel

theorem test_meets_exchange_end :
    (flying .run .receiving).requested = none ∧ Outcome.busy ≠ .blocked ∧
    { writing .receiving with stepPending := true }.stepPending = true ∧
    (writing .receiving).stepPending = false := by decide

theorem test_meets_blocked :
    (flying .run .sending).mode = .run ∧
    (flying .run .sending).fault.all FaultRecord.retained = true ∧
    { flying .run .sending with fault := some aFault }.fault = some aFault ∧
    aFault.retained = false ∧ aFault.second = none := by decide

theorem test_meets_blocked_in_hold :
    let s := flying .hold .sending
    let t := { s with requested := some .configuration }
    s.mode = .hold ∧ s.fault.all FaultRecord.retained = true ∧ s.requested = none ∧ t.mode = .hold ∧
    t.requested = some .configuration ∧ t.fault.all FaultRecord.retained = true ∧
    { s with fault := some aFault }.fault = some aFault := by decide

theorem test_meets_requested :
    { flying .run .receiving with requested := some .configuration }.requested = some .configuration ∧
    Outcome.silent ≠ .blocked := by decide

/-! ## Hypotheses met: stations and attention -/

theorem test_meets_scoring :
    let e := good
    (flying .run .receiving).mode ≠ .loopback ∧ (writing .receiving).station = stationAddress 5 ∧
    (writing .receiving).kind = .slot ∧ (flying .loopback .receiving).mode = .loopback ∧
    e.state ≠ .vacant ∧ e.state ≠ .lost ∧ e.score + 8 = 8 ∧ { e with score := 56 }.score + 8 = 64 ∧
    ({ e with score := 56 }.afterExchange .silent).state = .suspect ∧
    ({ e with score := 239, state := .silenced }.afterExchange .silent).state = .lost := by
  decide

theorem test_meets_loss :
    let s := withLine 2 { Line.reset with state := .serving, serviceList := [5, 6] } offering
    s.ready.Nodup ∧ (∀ l : LineId, s.lines[l].serviceList.Nodup) ∧
    s.slots[(3 : SlotId)].station = stationAddress 5 ∧ s.slots[(3 : SlotId)].state = .ready ∧
    5 ∈ s.lines[(2 : LineId)].serviceList ∧ (live .run).ready.Nodup ∧
    (∀ l : LineId, (live .run).lines[l].serviceList = []) ∧
    (∀ i : SlotId, (live .run).slots[i].state = .empty) := by decide

theorem test_meets_probe :
    let x := exchange .probe none 7 none .probe .receiving
    let s := withStation 7 { good with state := .probing, probeFailures := 1 } (busy .run x)
    s.mode ≠ .loopback ∧ x.kind = .probe ∧ x.station = stationAddress 7 ∧
    s.stations[(7 : StationId)].probeFailures = 1 ∧
    (busy .run x).stations[(7 : StationId)].probeFailures = 0 := by decide

theorem test_meets_station_requests :
    let s := withStation 0 { good with armed := 1 } (withStation 1 { good with state := .lost } (live .hold))
    let t := flying .run .receiving
    PortFree s ∧ s.mode = .hold ∧ (live .run).mode = .run ∧
    s.stations[(0 : StationId)].state ≠ .vacant ∧ 0 < s.stations[(0 : StationId)].armed ∧
    s.stations[(1 : StationId)].state = .lost ∧ s.stations[(1 : StationId)].armed = 0 ∧
    s.stations[(30 : StationId)].state = .vacant ∧ PortFree t ∧ t.dispatcher = .busy ∧
    (t.exchange.any (fun x => decide (x.station = stationAddress 5))) = true ∧
    31 ≤ (31 : Byte).toNat := by decide

theorem test_meets_drop :
    let r := { Line.reset with state := .serving, serviceList := [5] }
    5 ∈ r.serviceList ∧ r.serviceList.erase 5 = [] ∧ 6 ∉ r.serviceList ∧
    { r with serviceList := [5, 6] }.serviceList.erase 5 ≠ [] := by decide

theorem test_meets_attention :
    let s := withLine 1 { Line.reset with state := .stuck, filtered := true } (live .loopback)
    PortFree s ∧ s.mode = .loopback ∧ (live .run).mode ≠ .loopback ∧ 8 ≤ (8 : Byte).toNat ∧
    ((3 : Byte).toNat < 4 ∨ 8 ≤ (3 : Byte).toNat) ∧ ((4 : Byte).toNat = 0 ∨ 4 ≤ (4 : Byte).toNat) ∧
    s.lines[(1 : LineId)].state = .stuck ∧ s.lines[(0 : LineId)].state ≠ .stuck ∧
    (0x80000000 : BitVec 32).getLsbD 31 = true ∧ 16 ≤ (16 : Byte).toNat := by decide

theorem test_meets_lines :
    let s := { withLine 0 { Line.reset with pin := true } (live .run) with
      settings := { Settings.reset with filter := .us0 } }
    let d := { live .dormant with settings := { Settings.reset with wakeLevels := 1 } }
    s.startUp = .done ∧ s.mode ≠ .halted ∧ s.clockSource = .crystal ∧ s.settings.filter = .us0 ∧
    true ≠ s.lines[(0 : LineId)].pinFilter ∧
    s.lines[(0 : LineId)].pin ≠ s.lines[(0 : LineId)].pinFilter ∧ (live .loopback).mode = .loopback ∧
    (live .run).settings.filter ≠ .us0 ∧ d.mode = .dormant ∧ d.wake = none ∧
    d.lines[(0 : LineId)].filtered = false ∧ d.settings.wakeLevels.getLsbD 0 = true := by decide

/-- R95: with a time of 0 a difference being timed is taken at once, with another it is left. -/
theorem test_retimed_filters :
    let s := withLine 0 { Line.reset with pin := true } (live .run)
    let z := { s with settings := { Settings.reset with filter := .us0 } }
    z.retimeFilters.lines[(0 : LineId)].state = .pending ∧
    s.retimeFilters.lines[(0 : LineId)].state = .quiet := by decide

theorem test_meets_soft :
    let s := { live .run with soft := State.reset.soft.set 0 1, threshold := 0 }
    s.soft[(0 : SoftId)] ≠ 0 ∧ s.threshold.val < 1 ∧ s.mode ≠ .dormant ∧ s.mode ≠ .halted ∧
    s.exchangeOccupied + s.reserved ≤ 27 ∧ (live .run).soft[(0 : SoftId)] = 0 := by decide

theorem test_meets_roll :
    let x := exchange .roll none 31 (some 2) .roll .receiving
    let s := withLine 2 { Line.reset with state := .roll, filtered := true, rollAttempt := true }
      (withStation 0 good (busy .run x))
    x.kind = .roll ∧ x.level = some 2 ∧ s.lines[(2 : LineId)].rollAttempt = true ∧
    s.servable 1 = [0] ∧ s.servable 2 = [] ∧ s.lines[(2 : LineId)].filtered = true ∧
    Verdict.garbled ≠ .consistent ∧ (busy .run x).lines[(2 : LineId)].rollAttempt = false := by
  decide

theorem test_meets_cause :
    let x := exchange .cause none 30 (some 3) .cause .receiving
    let s := withLine 3 { Line.reset with state := .serving, serviceList := [30], readFailures := true }
      (withStation 30 { good with causeMask := 0x8000 } (busy .run x))
    x.kind = .cause ∧ x.level = some 3 ∧ x.station = stationAddress 30 ∧
    s.lines[(3 : LineId)].serviceList = 30 :: [] ∧ s.lines[(3 : LineId)].readFailures = true ∧
    (busy .run x).lines[(3 : LineId)].serviceList.head? ≠ some 30 ∧
    s.stations[(30 : StationId)].causeMask.getLsbD 15 = true ∧
    s.stations[(30 : StationId)].causeMask.getLsbD 14 = false := by decide

/-! ## Hypotheses met: timers, modes, clocks -/

theorem test_meets_timer_requests :
    let r := { Timer.reset with enabled := true, count := 1, due := true }
    let s := withTimer 7 { r with source := .base10ms } (withTimer 1 { r with source := .base100us }
      (live .run))
    PortFree s ∧ s.mode ≠ .halted ∧ s.timers[(0 : TimerId)].due = false ∧
    s.timers[(7 : TimerId)].due = true ∧ s.timers[(7 : TimerId)].source = .base10ms ∧
    s.uptime.toNat % 10 = 0 ∧ s.timers[(1 : TimerId)].due = true ∧ s.fineDivider = 0 ∧
    ¬ (TimerSource.cascade = .cascade ∧ (1 : TimerId) = 0) ∧ (4095 : Half).toNat ≤ 4095 ∧
    (1 : Half) ≠ 0 ∧ 2 ≤ (2 : Byte).toNat := by decide

/-- A due tick of BASE_100US met by SET TIMER with four new sources: the tick was also one of BASE_10US
and of BASE_100US, and none of BASE_1MS or CASCADE (R120). -/
theorem test_due_tick_of_the_new_source :
    let old := { Timer.reset with enabled := true, count := 1, due := true, source := .base100us }
    let new (src : TimerSource) := { Timer.reset with
      enabled := true, source := src, reload := 2, count := 2 }
    let s := withTimer 1 old (live .run)
    [TimerSource.base10us, .base100us, .base1ms, .cascade].map
      (fun src => (s.recordAfterSet old (new src)).count) = [1, 1, 2, 2] := by decide

theorem test_meets_ticks :
    let s := { live .run with fineDivider := 9 }
    (∀ n : TimerId, s.timers[n].due = false) ∧ s.silence ≠ some 0 ∧ s.startUp ≠ .inReset ∧
    s.mode ≠ .halted ∧ s.clockSource = .crystal ∧ State.reset.clockSource ≠ .crystal ∧
    (live .halted).mode = .halted ∧ { State.reset with startUp := .inReset }.startUp = .inReset := by
  decide

/-- Underflows of timers 0 and 1 and the silence expiry, all left due by earlier ticks. -/
theorem test_meets_catch_up :
    let due := { Timer.reset with enabled := true, count := 1, due := true }
    let s := { withTimer 1 due (withTimer 0 due (live .run)) with silence := some 0 }
    s.timers[(0 : TimerId)].due = true ∧ s.timers[(1 : TimerId)].due = true ∧
    s.catchUp.timers[(0 : TimerId)].tally = 1 ∧ s.catchUp.timers[(1 : TimerId)].tally = 1 ∧
    s.catchUp.mode = .hold ∧ { live .run with silence := some 5 }.catchUp.mode = .run := by
  decide +kernel

theorem test_meets_underflows :
    let c := { Timer.reset with enabled := true, source := .cascade, count := 2 }
    let s := withTimer 7 { c with count := 1 } (withTimer 1 c
      (withTimer 6 { Timer.reset with due := true, softLevel := 3, wakeEnable := true }
        (withSlot 0 { inState .waiting 31 with trigger := some 6 }
          (withSlot 1 { inState .ready 31 with trigger := some 6, repeating := true } (live .run)))))
    (s.timers[(6 : TimerId)].due = true ∧ s.timers[(0 : TimerId)].due = false) ∧
    s.timers[(1 : TimerId)].source = .cascade ∧ 1 < s.timers[(1 : TimerId)].count ∧
    s.timers[(7 : TimerId)].count ≤ 1 ∧ s.timers[(7 : TimerId)].enabled = true ∧
    s.mode ≠ .dormant ∧ s.slots[(0 : SlotId)].trigger = some 6 ∧
    s.slots[(0 : SlotId)].state = .waiting ∧ s.slots[(1 : SlotId)].repeating = true ∧
    s.timers[(6 : TimerId)].softLevel.val = (2 : SoftId).val + 1 ∧
    s.timers[(0 : TimerId)].softLevel = 0 ∧ s.exchangeOccupied + s.reserved ≤ 27 ∧
    (live .dormant).mode = .dormant ∧ (live .dormant).wake = none := by decide

theorem test_meets_set_mode :
    let s := live .run
    let full := { s with reports := List.replicate 3 ⟨0, .mode .hold .run .request none⟩ }
    PortFree s ∧ 5 ≤ (5 : Byte).toNat ∧ s.requested = none ∧ s.systemOccupied ≤ 2 ∧
    2 < full.systemOccupied ∧ { s with requested := some .hold }.requested ≠ none ∧
    (live .hold).dormancyAllowed = true ∧ (live .loopback).mode = .loopback ∧
    full.dormancyAllowed = false ∧ (flying .run .receiving).dispatcher = .busy ∧ Mode.run ≠ .halted ∧
    Mode.hold ≠ s.mode := by decide

theorem test_meets_mode_changes :
    (live .run).mode ≠ .dormant ∧ (live .run).mode ≠ .halted ∧ (live .run).mode ≠ .configuration ∧
    (live .run).mode ≠ .loopback ∧ (live .loopback).mode ≠ .hold ∧
    { live .run with silence := some 0 }.silence = some 0 ∧ (live .run).silence ≠ some 0 ∧
    offering.mode ≠ .configuration ∧ offering.slots[(4 : SlotId)].state.waits = true ∧
    offering.slots[(4 : SlotId)].station = stationAddress 5 := by decide

theorem test_meets_dormancy :
    let s := live .dormant
    let r : Reply := ⟨0xD0, 0, .ok, []⟩
    s.mode = .dormant ∧ s.wake = none ∧ s.crystal = .stable ∧ r.isReset = false ∧
    { s with reply := some r }.reply = some r ∧ s.reply = none ∧
    { s with wake := some .host, crystal := .starting }.wake = some .host ∧
    { s with wake := some .host, crystal := .starting }.crystal = .starting ∧ s.fault = none := by
  decide

theorem test_meets_behind_loss :
    (live .run).monitorRunning = true ∧ (live .run).candidate = none ∧
    State.reset.monitorRunning = false ∧ offering.canStart = true ∧ offering.monitorRunning = true ∧
    offering.exchange = none ∧ (offering.candidate.bind Exchange.slot) = some 3 ∧
    offering.slots[(3 : SlotId)].codeAgrees = true ∧
    (∀ st : StationId, offering.stations[st].codeAgrees = true) ∧
    { offering with fault := some aFault }.fault = some aFault ∧ aFault.retained = false ∧
    aFault.second = none := by decide

theorem test_meets_crystal :
    let s := flying .run .sending
    let starts := { s with
      intake := .search, holding := [], overrun := none, reply := none
      clockSource := .lowSpeed, monitorRunning := false, crystal := .starting }
    let pending := { starts with requested := some .configuration }
    s.monitorRunning = true ∧ State.reset.monitorRunning = false ∧ s.dispatcher = .busy ∧
    ¬ PortFree { s with holding := [requestFrame 1 .status] } ∧
    s.exchange = some (writing .sending) ∧ s.fault.all FaultRecord.retained = true ∧
    { s with fault := some aFault }.fault = some aFault ∧ aFault.retained = false ∧
    (starts.endExchange (writing .sending) .abandoned).mode = .run ∧
    (pending.endExchange (writing .sending) .abandoned).mode = .configuration ∧
    (live .hold).dispatcher ≠ .busy ∧ (live .hold).mode = .hold ∧ (live .run).dispatcher ≠ .busy ∧
    (live .hold).exchange = none ∧ aFault.second = none ∧
    { aFault with second := some FaultKind.linkStuck }.second ≠ none ∧
    { live .hold with crystal := .starting }.crystal = .starting ∧ (live .hold).startUp = .done ∧
    (live .dormant).mode = .dormant ∧ State.reset.startUp = .waiting := by decide +kernel

theorem test_meets_resets :
    let held := { State.reset with startUp := .inReset, pinResetHeld := true, resetPin := true }
    let r : Reply := ⟨0xE0, 0, .ok, []⟩
    (live .run).supply ≠ .below ∧ { held with supply := .below }.supply = .below ∧
    { held with supply := .delay }.supply = .delay ∧ held.startUp = .inReset ∧
    held.pinResetHeld = true ∧ held.supply = .good ∧
    { held with supply := .delay, pinResetHeld := false }.pinResetHeld = false ∧
    { live .run with resetPin := true }.resetPin = true ∧ (live .run).pinResetHeld = false ∧
    { live .run with reply := some r }.reply = some r ∧ (live .run).supply = .good ∧
    (0xE0 : Byte) = 0x60 ||| 0x80 := by decide

theorem test_meets_report_requests :
    let s := { live .run with reports := [⟨0, .attnSoft 0 1⟩] }
    PortFree s ∧ ((0 : Byte) = 0 ∨ 4 < (5 : Byte).toNat) ∧ (4 : Byte) ≠ 0 ∧ (4 : Byte).toNat ≤ 4 ∧
    s.reports.take 4 ≠ [] ∧ (live .run).reports.take 1 = [] ∧ s.mode ≠ .halted ∧
    s.monitorRunning = true := by decide

theorem test_meets_settings :
    ([1, 2] : List Byte).length = (List.range 6).countP (fun k => (0x12 : Byte).getLsbD k) ∧
    ([] : List Byte).length = (List.range 6).countP (fun k => (0xC0 : Byte).getLsbD k) ∧
    (serveWriteSettings 0x3F [3, 200, 50, 3, 255, 0xF0] (live .configuration)).2.1 = .ok ∧
    (serveWriteSettings 0x3F [0, 2, 1, 0, 0, 0] (live .configuration)).2.1 = .ok ∧
    (serveWriteSettings 0x07 [0, 2, 1] (live .run)).2.1 = .mode ∧
    (serveWriteSettings 0x38 [0, 1, 0x10] (live .run)).2.1 = .ok ∧
    [serveWriteSettings 0x40 [], serveWriteSettings 0 [], serveWriteSettings 1 [4],
      serveWriteSettings 2 [1], serveWriteSettings 2 [201], serveWriteSettings 4 [0],
      serveWriteSettings 4 [51], serveWriteSettings 8 [4], serveWriteSettings 32 [1]].all
        (fun f => decide ((f (live .configuration)).2.1 = .badValue)) = true := by decide

/-! A state that every relation of Safety.lean holds in, by the blocks whose records they speak of. -/

theorem test_meets_records : let s := live .run
    HaltedHoldsSecond s ∧ TimersBounded s ∧ SlotsRelated s ∧ StationsScored s := by decide

theorem test_meets_link : let s := live .run
    DispatcherLawful s ∧ LinkDriven s ∧ PortLawful s ∧ LinesLawful s := by decide

theorem test_meets_queues : let s := live .run
    QueueLawful s ∧ ArmedLawful s ∧ ReportsBounded s ∧ ModeLawful s ∧ LinesFiltered s := by
  decide

theorem test_meets_no_exchange : ExchangeShaped (live .run) := fun _ present => nomatch present

theorem test_meets_clocks : let s := live .run
    StartUpLawful s ∧ ClockLawful s ∧ TransitionsLawful s := by decide

theorem test_meets_relations : Lawful (live .run) := by
  obtain ⟨halted, timers, slots, scores⟩ := test_meets_records
  obtain ⟨dispatcher, driven, port, lines⟩ := test_meets_link
  obtain ⟨queue, armed, reports, mode, filtered⟩ := test_meets_queues
  exact ⟨halted, timers, slots, scores, dispatcher, driven, port, lines, queue, armed, reports, mode,
    filtered, test_meets_no_exchange, test_meets_clocks⟩

/-- A step from that state. -/
theorem test_step :
    (match step { live .run with pending := [.timeBaseTick .millisecond] } with
      | .next t => decide (t.uptime = 1)
      | .fault _ => false
      | .refused _ => false) = true := by decide

end Sys2Proof.Tests
end

/-! ## Every step keeps the slot records' relation and the score bounds (R1, R89) -/
section
namespace Sys2Proof.Machine
open Sys2Proof.Safety

/-- The relations of R1 and R89 together: they speak of the slot records and the station entries alone. -/
structure RecordsLawful (s : State) : Prop where
  related : SlotsRelated s
  scored : StationsScored s

variable {s t : State}

/-- What leaves both tables as they stand keeps their relations. -/
theorem RecordsLawful.of_eq (h : RecordsLawful s) (slots : t.slots = s.slots)
    (stations : t.stations = s.stations) : RecordsLawful t where
  related := by unfold SlotsRelated; rw [slots]; exact h.related
  scored := by unfold StationsScored; rw [stations]; exact h.scored

theorem RecordsLawful.onlyLines (h : RecordsLawful s) (only : OnlyLines s t) : RecordsLawful t := by
  unfold OnlyLines at only
  exact h.of_eq (by rw [only]) (by rw [only])

theorem RecordsLawful.onlySoft (h : RecordsLawful s) (only : OnlySoft s t) : RecordsLawful t := by
  unfold OnlySoft at only
  exact h.of_eq (by rw [only]) (by rw [only])

theorem RecordsLawful.onlyFault (h : RecordsLawful s) (only : OnlyFault s t) : RecordsLawful t := by
  unfold OnlyFault at only
  exact h.of_eq (by rw [only]) (by rw [only])

/-- A fold keeps what each of its steps keeps. -/
theorem foldl_keeps {α : Type} {P : State → Prop} {f : State → α → State} (l : List α)
    (keeps : ∀ s a, P s → P (f s a)) (h : P s) : P (l.foldl f s) := by
  induction l generalizing s with
  | nil => exact h
  | cons a l ih => exact ih (keeps s a h)

/-! ### The slot table -/

theorem RecordsLawful.writeSlot (h : RecordsLawful s) (i : SlotId) {r : Slot} (hr : SlotRelated r) :
    RecordsLawful (s.writeSlot i r) where
  related j := by
    rw [writeSlot_slots, slot_set]
    split
    · exact hr
    · exact h.related j
  scored := h.scored

theorem RecordsLawful.writeStation (h : RecordsLawful s) (st : StationId) {e : Station}
    (he : StationScored e) : RecordsLawful (s.writeStation st e) where
  related := h.related
  scored k := by
    rw [writeStation_stations, station_set]
    split
    · exact he
    · exact h.scored k

/-- A record with an outcome written keeps R1 where the refusal reason and the response are given with the
outcomes they belong to. -/
theorem withOutcome_related (r : Slot) {o : SlotOutcome} {refusal : Option Byte}
    {response : Option (List Byte)} (hr : refusal.isSome ↔ o = .refused) (hp : response.isSome ↔ o = .ok) :
    SlotRelated (r.withOutcome o refusal response) := by
  simpa [SlotRelated, Slot.withOutcome] using ⟨hr, hp⟩

/-- An outcome that is neither REFUSED nor OK is written with neither optional field. -/
theorem withOutcome_bare_related (r : Slot) {o : SlotOutcome} (refused : o ≠ .refused) (ok : o ≠ .ok) :
    SlotRelated (r.withOutcome o none none) :=
  withOutcome_related r (by simpa using refused) (by simpa using ok)

theorem RecordsLawful.leaveQueue (h : RecordsLawful s) (i : SlotId) : RecordsLawful (s.leaveQueue i) :=
  h.of_eq rfl rfl

theorem RecordsLawful.queueReport (h : RecordsLawful s) (b : ReportBody) :
    RecordsLawful (s.queueReport b) :=
  h.of_eq rfl rfl

theorem RecordsLawful.queueReserved (h : RecordsLawful s) (b : ReportBody) :
    RecordsLawful (s.queueReserved b) :=
  h.of_eq rfl rfl

theorem RecordsLawful.writeLine (h : RecordsLawful s) (l : LineId) (r : Line) :
    RecordsLawful (s.writeLine l r) :=
  h.of_eq rfl rfl

theorem RecordsLawful.setReady (h : RecordsLawful s) (l : List SlotId) :
    RecordsLawful { s with ready := l } :=
  h.of_eq rfl rfl

theorem RecordsLawful.setLines (h : RecordsLawful s) (v : Vector Line 4) :
    RecordsLawful { s with lines := v } :=
  h.of_eq rfl rfl

theorem RecordsLawful.setAnswer (h : RecordsLawful s) (a : Option LoopAnswer) :
    RecordsLawful { s with loopAnswer := a } :=
  h.of_eq rfl rfl

theorem RecordsLawful.dispatcherAfter (h : RecordsLawful s) (x : Exchange) :
    RecordsLawful (s.dispatcherAfter x) :=
  h.of_eq rfl rfl

theorem RecordsLawful.lowerArmed (h : RecordsLawful s) (a : Address) : RecordsLawful (s.lowerArmed a) := by
  unfold State.lowerArmed
  split
  · exact h
  · exact h.writeStation _ (h.scored _)

theorem RecordsLawful.raiseArmed (h : RecordsLawful s) (a : Address) : RecordsLawful (s.raiseArmed a) := by
  unfold State.raiseArmed
  split
  · exact h
  · exact h.writeStation _ (h.scored _)

theorem RecordsLawful.disarmTo (h : RecordsLawful s) (i : SlotId) {r : Slot} (hr : SlotRelated r) :
    RecordsLawful (s.disarmTo i r) :=
  (h.writeSlot i hr).lowerArmed _

theorem RecordsLawful.failLost (h : RecordsLawful s) (i : SlotId) : RecordsLawful (s.failLost i) :=
  (h.leaveQueue i).disarmTo i (withOutcome_bare_related _ nofun nofun)

theorem RecordsLawful.failSlotsOf (h : RecordsLawful s) (st : StationId) :
    RecordsLawful (s.failSlotsOf st) := by
  unfold State.failSlotsOf
  refine foldl_keeps _ (fun t i ht => ?_) h
  split
  · exact ht.failLost i
  · exact ht

theorem RecordsLawful.disarmAll (h : RecordsLawful s) : RecordsLawful s.disarmAll := by
  have folded : RecordsLawful (allSlots.foldl (fun t i =>
      if t.slots[i].state.waits then t.disarmTo i { t.slots[i] with state := .loaded } else t) s) := by
    refine foldl_keeps _ (fun t i ht => ?_) h
    split
    · exact ht.disarmTo i (ht.related i)
    · exact ht
  unfold State.disarmAll
  exact folded.setReady []

theorem programmed_related {st c p r t o : Byte} {payload : List Byte} {rec : Slot}
    (h : programmed st c p r t o payload = some rec) : SlotRelated rec := by
  unfold programmed at h
  split at h
  · split at h
    · cases h
      simp [SlotRelated, Slot.reset]
    · cases h
  · cases h

theorem RecordsLawful.startSlot (h : RecordsLawful s) (i : SlotId) : RecordsLawful (s.startSlot i) := by
  unfold State.startSlot
  extract_lets r t
  have armed : RecordsLawful t := (h.writeSlot i (by simp [SlotRelated])).raiseArmed _
  split
  · exact armed.of_eq rfl rfl
  · exact armed

theorem RecordsLawful.abortOne (h : RecordsLawful s) (i : SlotId) : RecordsLawful (s.abortOne i) := by
  have aborts : RecordsLawful ((s.leaveQueue i).disarmTo i
      ({ s.slots[i] with state := .aborted }.withOutcome .aborted none none)) :=
    (h.leaveQueue i).disarmTo i (withOutcome_bare_related _ nofun nofun)
  unfold State.abortOne
  dsimp only
  split
  · exact aborts
  · exact aborts
  · exact h.writeSlot i (h.related i)
  all_goals exact h

theorem RecordsLawful.releaseSlot (h : RecordsLawful s) (n : TimerId) (i : SlotId) :
    RecordsLawful (s.releaseSlot n i) := by
  have later : RecordsLawful (if s.slots[i].repeating then
      s.writeSlot i { s.slots[i] with late := min 255 (s.slots[i].late + 1) } else s) := by
    split
    · exact h.writeSlot i (h.related i)
    · exact h
  unfold State.releaseSlot
  dsimp only
  split
  · split
    · exact (h.writeSlot i (r := { s.slots[i] with state := .ready, attempts := 0 }) (h.related i)).of_eq rfl rfl
    · exact later
    · exact later
    all_goals exact h
  · exact h

theorem RecordsLawful.releaseSlots (h : RecordsLawful s) (n : TimerId) :
    RecordsLawful (s.releaseSlots n) := by
  unfold State.releaseSlots
  split
  · exact h
  · exact foldl_keeps _ (fun t i ht => ht.releaseSlot n i) h

theorem RecordsLawful.finishSlot (h : RecordsLawful s) (i : SlotId) (st : SlotState) {o : SlotOutcome}
    {refusal : Option Byte} {response : Option (List Byte)} (tooLate report : Bool)
    (hr : refusal.isSome ↔ o = .refused) (hp : response.isSome ↔ o = .ok) :
    RecordsLawful (s.finishSlot i st o refusal response tooLate report) := by
  unfold State.finishSlot
  extract_lets r t
  have ends : RecordsLawful t := h.disarmTo i (withOutcome_related _ hr hp)
  split
  · exact ends.queueReserved _
  · exact ends

/-- A slot that ends its run neither OK nor REFUSED. -/
theorem RecordsLawful.finishSlot_bare (h : RecordsLawful s) (i : SlotId) (st : SlotState) {o : SlotOutcome}
    (tooLate report : Bool) (refused : o ≠ .refused) (ok : o ≠ .ok) :
    RecordsLawful (s.finishSlot i st o none none tooLate report) :=
  h.finishSlot i st tooLate report (by simpa using refused) (by simpa using ok)

theorem RecordsLawful.retrySlot (h : RecordsLawful s) (i : SlotId) (n : Nat) :
    RecordsLawful (s.retrySlot i n) :=
  (h.writeSlot i (r := { s.slots[i] with state := .ready, abortPending := false, attempts := n })
    (h.related i)).of_eq rfl rfl

theorem RecordsLawful.slotAck (h : RecordsLawful s) (i : SlotId) (p : List Byte) :
    RecordsLawful (s.slotAck i p) := by
  unfold State.slotAck
  dsimp only
  split
  · have again := h.writeSlot i (withOutcome_related { s.slots[i] with state := .waiting }
      (o := .ok) (refusal := none) (response := some p) (by simp) (by simp))
    split
    · exact again
    · exact again.queueReserved _
  · exact h.finishSlot _ _ _ _ (by simp) (by simp)

theorem RecordsLawful.slotUncounted (h : RecordsLawful s) (i : SlotId) :
    RecordsLawful (s.slotUncounted i) := by
  unfold State.slotUncounted
  extract_lets r t
  have uncounted : RecordsLawful t := h.writeSlot i (h.related i)
  split
  · exact uncounted.finishSlot_bare _ _ _ _ nofun nofun
  · exact uncounted.retrySlot _ _

theorem RecordsLawful.slotFailed (h : RecordsLawful s) (i : SlotId) (link : Bool) {o : SlotOutcome}
    (refused : o ≠ .refused) (ok : o ≠ .ok) : RecordsLawful (s.slotFailed i link o) := by
  unfold State.slotFailed
  dsimp only
  split
  · exact h.finishSlot_bare _ _ _ _ nofun nofun
  · split
    · exact h.finishSlot_bare _ _ _ _ nofun nofun
    · split
      · exact h.retrySlot _ _
      · exact h.finishSlot_bare _ _ _ _ refused ok

theorem RecordsLawful.slotEnd (h : RecordsLawful s) (i : SlotId) (o : Outcome) :
    RecordsLawful (s.slotEnd i o) := by
  cases o with
  | ack payload => exact h.slotAck i payload
  | broadcastDone => exact h.slotAck i []
  | nak reason =>
    show RecordsLawful (s.finishSlot i .failed .refused (some reason) none false true)
    exact h.finishSlot i .failed false true (by simp) (by simp)
  | busy => exact h.slotFailed i false nofun nofun
  | silent | garbled | echoMismatch => exact h.slotFailed i true nofun nofun
  | blocked | abandoned => exact h.slotUncounted i
  | rollResult => exact h

theorem RecordsLawful.failSlotCode (h : RecordsLawful s) (i : SlotId) :
    RecordsLawful (s.failSlotCode i) := by
  unfold State.failSlotCode State.reportCompletion
  exact ((h.leaveQueue i).disarmTo i (withOutcome_bare_related _ (o := .internal) nofun nofun)).queueReserved _

/-! ### The station table -/

theorem RecordsLawful.dropLost (h : RecordsLawful s) (st : StationId) : RecordsLawful (s.dropLost st) := by
  unfold State.dropLost
  split
  · exact h.of_eq rfl rfl
  · exact h.of_eq rfl rfl

theorem RecordsLawful.loseStation (h : RecordsLawful s) (st : StationId) (reason : StationReason)
    (old : Option StationState) (own : Option SlotId) : RecordsLawful (s.loseStation st reason old own) := by
  unfold State.loseStation
  exact ((h.failSlotsOf st).queueReserved _).dropLost st

/-- Scoring an outcome keeps the bounds of R89: a score below 240 rises by at most 8, and one of 240 or
more makes the station LOST, where the score stands still. -/
theorem afterExchange_scored (e : Station) (o : Outcome) (h : StationScored e) :
    StationScored (e.afterExchange o) := by
  obtain ⟨bound, high⟩ := h
  have rise : o.score e.score ≤ e.score + 8 := by
    cases o <;> simp only [Outcome.score] <;> omega
  unfold Station.afterExchange
  cases hs : e.state
  case lost => exact ⟨bound, fun _ => rfl⟩
  case vacant =>
    have low : ¬ 240 ≤ e.score := fun top => by rw [hs] at high; cases high top
    exact ⟨bound, fun top => absurd top low⟩
  all_goals
    have low : ¬ 240 ≤ e.score := fun top => by rw [hs] at high; cases high top
    refine ⟨?_, fun top => ?_⟩
    · show o.score e.score ≤ 247
      omega
    · exact if_pos (by simpa [StationState.scored] using top)

theorem RecordsLawful.scoreEnd (h : RecordsLawful s) (st : StationId) (own : Option SlotId) (o : Outcome) :
    RecordsLawful (s.scoreEnd st own o) := by
  unfold State.scoreEnd
  extract_lets old e t
  have scored : RecordsLawful t := h.writeStation st (afterExchange_scored _ o (h.scored st))
  split
  · exact scored
  · split
    · exact scored.loseStation _ _ _ _
    · exact scored.queueReserved _

theorem RecordsLawful.probeFails (h : RecordsLawful s) (st : StationId) :
    RecordsLawful (s.probeFails st) := by
  unfold State.probeFails
  dsimp only
  split
  · exact h.writeStation st (h.scored st)
  · have lost : StationScored { s.stations[st] with state := .lost } := ⟨(h.scored st).1, fun _ => rfl⟩
    exact (h.writeStation st lost).loseStation _ _ _ _

theorem RecordsLawful.probeEnd (h : RecordsLawful s) (st : StationId) (o : Outcome) :
    RecordsLawful (s.probeEnd st o) := by
  cases o with
  | ack payload =>
    exact (h.writeStation st ⟨Nat.zero_le 247, fun top => absurd top (Nat.not_succ_le_zero 239)⟩).queueReserved _
  | nak | silent | garbled | echoMismatch => exact h.probeFails st
  | busy | blocked | abandoned | broadcastDone | rollResult => exact h

theorem RecordsLawful.stationTakes (h : RecordsLawful s) (x : Exchange) (o : Outcome) :
    RecordsLawful (s.stationTakes x o) := by
  unfold State.stationTakes
  split
  · exact h
  · split
    · exact h
    · split
      · exact h.scoreEnd _ _ _
      · exact h.scoreEnd _ _ _
      · exact h.probeEnd _ _
      · exact h

theorem RecordsLawful.loseByCheck (h : RecordsLawful s) (st : StationId) :
    RecordsLawful (s.loseByCheck st) :=
  (h.writeStation st ⟨Nat.zero_le 247, fun _ => rfl⟩).loseStation _ _ _ _

/-! ### The levels -/

theorem RecordsLawful.causeAck (h : RecordsLawful s) (l : LineId) (st : StationId) (payload : List Byte) :
    RecordsLawful (s.causeAck l st payload) := by
  unfold State.causeAck
  extract_lets c _ t u
  have noted : RecordsLawful t := by
    unfold t
    split
    · exact h
    · exact h.writeStation st (h.scored st)
  split
  · exact (noted.writeLine _ _).queueReserved _
  · exact noted.writeLine _ _

theorem RecordsLawful.readFails (h : RecordsLawful s) (l : LineId) (st : StationId) (o : Outcome) :
    RecordsLawful (s.readFails l st o) := by
  unfold State.readFails
  split
  · exact (h.writeLine _ _).queueReserved _
  · exact h.writeLine _ _

theorem RecordsLawful.causeEnd (h : RecordsLawful s) (l : LineId) (st : StationId) (o : Outcome) :
    RecordsLawful (s.causeEnd l st o) := by
  unfold State.causeEnd
  split
  · cases o with
    | ack payload => exact h.causeAck _ _ payload
    | nak => exact h.writeLine _ _
    | busy | silent | garbled | echoMismatch => exact h.readFails _ _ _
    | blocked | abandoned | broadcastDone | rollResult => exact h
  · exact h

theorem RecordsLawful.endRoll (h : RecordsLawful s) (l : LineId) (w : StationSet) (u : Bool) :
    RecordsLawful (s.endRoll l w u) := by
  unfold State.endRoll
  dsimp only
  split
  · exact (h.writeLine _ _).queueReserved _
  · exact h.writeLine _ _

theorem RecordsLawful.rollFails (h : RecordsLawful s) (l : LineId) (p m : StationSet) :
    RecordsLawful (s.rollFails l p m) := by
  unfold State.rollFails
  split
  · exact h.endRoll _ _ _
  · exact h.writeLine _ _

theorem RecordsLawful.rollEnd (h : RecordsLawful s) (l : LineId) (o : Outcome) :
    RecordsLawful (s.rollEnd l o) := by
  unfold State.rollEnd
  split
  · exact h.endRoll _ _ _
  · exact h.rollFails _ _ _
  · exact h.rollFails _ _ _
  all_goals exact h

theorem RecordsLawful.ownerTakes (h : RecordsLawful s) (x : Exchange) (o : Outcome) :
    RecordsLawful (s.ownerTakes x o) := by
  unfold State.ownerTakes
  split
  · exact h.slotEnd _ _
  · exact h.rollEnd _ _
  · exact h.causeEnd _ _ _
  · exact h

/-! ### Modes, faults and the end of an exchange -/

theorem RecordsLawful.onEntry (h : RecordsLawful s) (m : Mode) : RecordsLawful (s.onEntry m) := by
  unfold State.onEntry
  split
  · exact h.disarmAll.setLines _
  · exact h

theorem RecordsLawful.onBorder (h : RecordsLawful s) (old new : Mode) :
    RecordsLawful (s.onBorder old new) := by
  unfold State.onBorder
  split
  · exact h.of_eq rfl rfl
  · split
    · exact h.of_eq rfl rfl
    · exact h

theorem RecordsLawful.changeMode (h : RecordsLawful s) (m : Mode) (c : ModeCause) :
    RecordsLawful (s.changeMode m c) := by
  unfold State.changeMode
  extract_lets t
  have told : RecordsLawful t := h.of_eq rfl rfl
  exact ((told.onEntry m).onBorder _ m).queueReport _

theorem RecordsLawful.forceHold (h : RecordsLawful s) (c : ModeCause) : RecordsLawful (s.forceHold c) := by
  unfold State.forceHold
  split
  · exact h.changeMode _ _
  · exact h

theorem RecordsLawful.silenceExpires (h : RecordsLawful s) : RecordsLawful s.silenceExpires := by
  unfold State.silenceExpires
  split
  · exact h.changeMode _ _
  · exact h

theorem RecordsLawful.completeRequested (h : RecordsLawful s) : RecordsLawful s.completeRequested := by
  unfold State.completeRequested
  split
  · exact h
  · exact h.changeMode _ _

theorem RecordsLawful.takeFault (h : RecordsLawful s) (f : FaultRecord) : RecordsLawful (s.takeFault f) :=
  h.onlyFault (takeFault_only s f)

theorem RecordsLawful.softTests (h : RecordsLawful s) : RecordsLawful s.softTests :=
  h.onlySoft (softTests_only s)

theorem RecordsLawful.linkStuck (h : RecordsLawful s) (x : Exchange) (o : Outcome) :
    RecordsLawful (s.linkStuck x o) := by
  unfold State.linkStuck
  split
  · exact (h.takeFault _).forceHold _
  · exact h

theorem RecordsLawful.stepReport (h : RecordsLawful s) (x : Exchange) (o : Outcome) :
    RecordsLawful (s.stepReport x o) := by
  unfold State.stepReport
  split
  · exact h.queueReserved _
  · exact h

theorem RecordsLawful.release (h : RecordsLawful s) : RecordsLawful s.release := by
  unfold State.release
  refine RecordsLawful.softTests ?_
  exact h.of_eq rfl rfl

theorem RecordsLawful.endExchange (h : RecordsLawful s) (x : Exchange) (o : Outcome) :
    RecordsLawful (s.endExchange x o) := by
  have stopped : RecordsLawful s.stopLink := h.of_eq rfl rfl
  have handed := (((stopped.stationTakes x o).ownerTakes x o).linkStuck x o).stepReport x o
  unfold State.endExchange
  exact (handed.release.dispatcherAfter x).completeRequested

theorem RecordsLawful.abandonFlight (h : RecordsLawful s) : RecordsLawful s.abandonFlight := by
  unfold State.abandonFlight
  split
  · exact h
  · exact h.endExchange _ _

theorem RecordsLawful.takeFaultElsewhere (h : RecordsLawful s) (f : FaultRecord) :
    RecordsLawful (s.takeFaultElsewhere f) := by
  unfold State.takeFaultElsewhere
  split
  · exact (h.takeFault f).abandonFlight
  · exact h.takeFault f

/-! ### Taking a candidate -/

theorem RecordsLawful.upset (h : RecordsLawful s) (x : Exchange) (u : Upset) :
    RecordsLawful (s.upset x u) := by
  unfold State.upset
  split
  · exact h
  · split
    · exact h
    · refine ⟨fun j => ?_, h.scored⟩
      dsimp only
      rw [slot_set]
      split
      · exact h.related _
      · exact h.related j
  · split
    · exact h
    · refine ⟨h.related, fun k => ?_⟩
      dsimp only
      rw [station_set]
      split
      · exact h.scored _
      · exact h.scored k

theorem RecordsLawful.cancel (h : RecordsLawful s) (x : Exchange) : RecordsLawful (s.cancel x) := by
  unfold State.cancel
  refine RecordsLawful.takeFaultElsewhere ?_ _
  exact h.of_eq rfl rfl

theorem RecordsLawful.markStarted (h : RecordsLawful s) (x : Exchange) :
    RecordsLawful (s.markStarted x) := by
  unfold State.markStarted
  split
  · exact (h.leaveQueue _).writeSlot _ (h.related _)
  · split
    · exact h.writeLine _ _
    · exact h
  · exact h

theorem RecordsLawful.beginSending (h : RecordsLawful s) (x : Exchange) (active : Bool) :
    RecordsLawful (s.beginSending x active) := by
  unfold State.beginSending
  split
  · exact h
  · dsimp only
    split
    · exact h.of_eq rfl rfl
    · exact h.of_eq rfl rfl

theorem RecordsLawful.startExchange (h : RecordsLawful s) (x : Exchange) (active : Bool) :
    RecordsLawful (s.startExchange x active) := by
  unfold State.startExchange
  refine RecordsLawful.beginSending ?_ x active
  exact (h.markStarted x).of_eq rfl rfl

theorem RecordsLawful.tested (h : RecordsLawful s) (x : Exchange) (u : Upset) {passed : State → State}
    (passes : ∀ t, RecordsLawful t → RecordsLawful (passed t)) : RecordsLawful (s.tested x u passed) := by
  unfold State.tested
  extract_lets t
  have reserved : RecordsLawful t := by
    refine RecordsLawful.upset ?_ x u
    exact h.of_eq rfl rfl
  split
  · exact (reserved.failSlotCode _).cancel x
  · split
    · exact (reserved.loseByCheck _).cancel x
    · exact passes t reserved

theorem RecordsLawful.look (h : RecordsLawful s) (active : Bool) (u : Upset) :
    RecordsLawful (s.look active u) := by
  unfold State.look
  split
  · split
    · exact h
    · exact h.tested _ u (fun t ht => ht.startExchange _ active)
  · exact h

/-! ### Timers, clocks and resets -/

theorem RecordsLawful.writeTimer (h : RecordsLawful s) (n : TimerId) (r : Timer) :
    RecordsLawful (s.writeTimer n r) := h.of_eq rfl rfl

theorem RecordsLawful.handOut (h : RecordsLawful s) (n : TimerId) : RecordsLawful (s.handOut n) := by
  have written : RecordsLawful (s.writeTimer n s.timers[n].atUnderflow) := h.writeTimer _ _
  have origin : RecordsLawful (((s.writeTimer n s.timers[n].atUnderflow).releaseSlots n).addTimerOrigin n) := by
    unfold State.addTimerOrigin
    split
    · exact written.releaseSlots n
    · exact (written.releaseSlots n).onlySoft (addOrigin_only _ _ _)
  unfold State.handOut State.timerWakes
  split
  · exact origin.onlyLines (tellWake_only _ _)
  · exact origin

theorem RecordsLawful.underflow (fuel : Nat) (h : RecordsLawful s) (n : TimerId) :
    RecordsLawful (State.underflow fuel s n) := by
  induction fuel generalizing s n with
  | zero => exact h
  | succ fuel ih =>
    have handed := h.handOut n
    unfold State.underflow
    dsimp only
    split
    · split
      · split
        · exact handed.writeTimer _ _
        · exact ih handed _
      · exact handed
    · exact handed

theorem RecordsLawful.catchUp (h : RecordsLawful s) : RecordsLawful s.catchUp := by
  unfold State.catchUp State.takeDue
  refine RecordsLawful.silenceExpires (foldl_keeps _ (fun t n ht => ?_) h)
  split
  · exact ht.underflow 8 n
  · exact ht

theorem RecordsLawful.fineTick (h : RecordsLawful s) : RecordsLawful s.fineTick := by
  unfold State.fineTick
  dsimp only
  split
  · exact h.of_eq rfl rfl
  · exact h.of_eq rfl rfl

theorem RecordsLawful.milliTick (h : RecordsLawful s) : RecordsLawful s.milliTick := by
  unfold State.milliTick
  dsimp only
  split
  · exact h.of_eq rfl rfl
  · exact h.of_eq rfl rfl

theorem reset_recordsLawful : RecordsLawful State.reset := ⟨by decide, by decide⟩

theorem beginReset_recordsLawful (s : State) (c : ResetCause) : RecordsLawful (s.beginReset c) :=
  reset_recordsLawful.of_eq rfl rfl

theorem RecordsLawful.endReset (h : RecordsLawful s) : RecordsLawful s.endReset := by
  unfold State.endReset
  split
  · exact h.of_eq rfl rfl
  · exact h

theorem RecordsLawful.retimeFilters (h : RecordsLawful s) : RecordsLawful s.retimeFilters :=
  h.onlyLines (retimeFilters_only s)

theorem RecordsLawful.crystalReturns (h : RecordsLawful s) : RecordsLawful s.crystalReturns := by
  unfold State.crystalReturns
  refine RecordsLawful.retimeFilters ?_
  exact h.of_eq rfl rfl

theorem RecordsLawful.leaveDormant (h : RecordsLawful s) : RecordsLawful s.leaveDormant := by
  unfold State.leaveDormant
  refine RecordsLawful.softTests ?_
  exact h.of_eq rfl rfl

theorem RecordsLawful.wakeOnLowSpeed (h : RecordsLawful s) : RecordsLawful s.wakeOnLowSpeed := by
  unfold State.wakeOnLowSpeed
  dsimp only
  split
  · exact (h.takeFault _).leaveDormant
  · exact h.takeFault _

theorem RecordsLawful.dormantReplyEnds (h : RecordsLawful s) : RecordsLawful s.dormantReplyEnds := by
  unfold State.dormantReplyEnds
  dsimp only
  split
  · exact h.of_eq rfl rfl
  · have ended : RecordsLawful { s with reply := none, holding := s.holding.tail } := h.of_eq rfl rfl
    split
    · exact ended.crystalReturns.leaveDormant
    · exact ended

theorem RecordsLawful.crystalLost (h : RecordsLawful s) : RecordsLawful s.crystalLost := by
  unfold State.crystalLost
  extract_lets _ t u
  have found : RecordsLawful t := h.of_eq rfl rfl
  have abandoned : RecordsLawful u := by
    unfold u
    split
    · exact found.abandonFlight
    · exact found
  exact (abandoned.takeFaultElsewhere _).forceHold _

theorem RecordsLawful.findLoss (h : RecordsLawful s) : RecordsLawful s.findLoss := by
  unfold State.findLoss
  split
  · split
    · exact h.of_eq rfl rfl
    · exact h.crystalLost
  · exact h

theorem RecordsLawful.lookBehindLoss (h : RecordsLawful s) (active : Bool) (u : Upset) :
    RecordsLawful (s.lookBehindLoss active u) := by
  have lost := h.findLoss
  unfold State.lookBehindLoss State.takeBehindLoss
  split
  · split
    · exact lost
    · split
      · exact lost
      · exact lost.tested _ u (fun _ _ => lost)
  · exact lost.look active u

/-! ### Requests and commands -/

/-- What a request's owner does keeps the relations of the records. -/
theorem RecordsLawful.serve (h : RecordsLawful s) (r : Request) : RecordsLawful (serve r s).1 := by
  cases r with
  | loadSlot n st c p rl t o payload =>
    show RecordsLawful (serveLoadSlot n st c p rl t o payload s).1
    unfold serveLoadSlot
    split
    · rename_i programs
      split
      · exact h
      · exact h.writeSlot _ (programmed_related programs)
    · exact h
  | releaseSlot n =>
    show RecordsLawful (serveReleaseSlot n s).1
    unfold serveReleaseSlot
    split
    · split
      · exact h
      · exact h.writeSlot _ (by simp [SlotRelated, Slot.reset])
    · exact h
  | readSlot n =>
    show RecordsLawful (serveReadSlot n s).1
    unfold serveReadSlot
    split <;> exact h
  | start set =>
    show RecordsLawful (serveStart set s).1
    unfold serveStart
    split
    · exact h
    · split
      · split
        · exact h
        · exact foldl_keeps _ (fun t i ht => ht.startSlot i) h
      · exact h
  | abortSlot n =>
    show RecordsLawful (serveAbortSlot n s).1
    unfold serveAbortSlot
    split
    · exact h.abortOne _
    · exact h
  | abortAll =>
    dsimp only [Machine.serve, serveAbortAll]
    exact foldl_keeps allSlots (fun t i ht => ht.abortOne i) h
  | stepEnable => exact h.of_eq rfl rfl
  | stepDisable => exact h.of_eq rfl rfl
  | stepAdvance =>
    show RecordsLawful (serveStepAdvance s).1
    unfold serveStepAdvance
    split
    · exact h.of_eq rfl rfl
    · exact h
  | enroll a mask =>
    show RecordsLawful (serveEnroll a mask s).1
    unfold serveEnroll
    split
    · exact h
    · split
      · exact h
      · split
        · exact h
        · exact h.writeStation _ (by simp [StationScored, Station.reset])
  | withdraw a =>
    show RecordsLawful (serveWithdraw a s).1
    unfold serveWithdraw
    split
    · exact h
    · split
      · exact h
      · split
        · exact h
        · split
          · exact h
          · exact (h.writeStation _ (e := Station.reset) (by simp [StationScored, Station.reset])).setLines _
  | restore a =>
    show RecordsLawful (serveRestore a s).1
    unfold serveRestore
    split
    · exact h
    · split
      · exact h
      · exact h.writeStation _ (by simp [StationScored])
  | setCauseMask a mask =>
    show RecordsLawful (serveSetCauseMask a mask s).1
    unfold serveSetCauseMask
    split
    · exact h
    · split
      · exact h
      · exact h.writeStation _ (h.scored _)
  | readStation a =>
    show RecordsLawful (serveReadStation a s).1
    unfold serveReadStation
    split <;> exact h
  | setThreshold t =>
    show RecordsLawful (serveSetThreshold t s).1
    unfold serveSetThreshold
    split
    · rename_i fits
      have set : RecordsLawful { s with threshold := ⟨t.toNat, fits⟩ } := h.of_eq rfl rfl
      dsimp only [accepted]
      split
      · exact set.softTests
      · exact set
    · exact h
  | unmask level =>
    show RecordsLawful (serveUnmask level s).1
    unfold serveUnmask
    split
    · exact h
    · split
      · exact h.writeLine _ _
      · exact h
  | raise level =>
    show RecordsLawful (serveRaise level s).1
    unfold serveRaise
    split
    · exact h
    · exact h.onlySoft (addOrigin_only _ _ _)
  | setLoopAttention level set cause =>
    show RecordsLawful (serveSetLoopAttention level set cause s).1
    unfold serveSetLoopAttention
    split
    · split
      · split
        · exact (h.writeLine _ _).onlyLines (changeLine_only _ _ _)
        · exact h
      · exact h
    · exact h
  | readAttention => exact h
  | setTimer n src reload soft flags =>
    show RecordsLawful (serveSetTimer n src reload soft flags s).1
    unfold serveSetTimer
    split
    · exact h
    · split
      · exact h
      · exact h.of_eq rfl rfl
  | readTimers clear =>
    show RecordsLawful (serveReadTimers clear s).1
    unfold serveReadTimers
    split
    · exact h
    · split
      · exact h.of_eq rfl rfl
      · exact h
  | setMode target =>
    show RecordsLawful (serveSetMode target s).1
    unfold serveSetMode
    split
    · exact h
    · split
      · exact h
      · unfold State.takeMode
        split
        · exact h.of_eq rfl rfl
        · split
          · exact h.of_eq rfl rfl
          · exact h.changeMode _ _
  | reset => exact h
  | clearCause => exact h.of_eq rfl rfl
  | fetch count =>
    show RecordsLawful (serveFetch count s).1
    unfold serveFetch
    split
    · have fetched : RecordsLawful { s with
          reports := s.reports.drop count.toNat
          freeCount := s.freeCount + (s.reports.take count.toNat).length } := h.of_eq rfl rfl
      dsimp only
      split
      · exact fetched
      · exact fetched.softTests
    · exact h
  | readFault => exact h
  | clearFault => exact h.of_eq rfl rfl
  | writeSettings mask values =>
    show RecordsLawful (serveWriteSettings mask values s).1
    unfold serveWriteSettings
    split
    · exact h
    · split
      · exact h
      · rename_i settings _
        split
        · exact h
        · have written : RecordsLawful { s with
              settings := settings
              silence := if mask.getLsbD 4 ∧ s.mode = Mode.run then settings.silenceStart else s.silence } :=
            h.of_eq rfl rfl
          unfold State.settingsWritten
          dsimp only [accepted]
          split
          · exact written.retimeFilters
          · exact written
  | readSettings => exact h
  | identify => exact h
  | status => exact h

theorem RecordsLawful.judge (h : RecordsLawful s) (f : Frame) : RecordsLawful (judge f s).1 := by
  have restarted : RecordsLawful s.restartSilence := by
    unfold State.restartSilence
    split
    · exact h.of_eq rfl rfl
    · exact h
  unfold Machine.judge
  split
  · exact h
  · split
    · exact restarted
    · split
      · exact restarted
      · split
        · exact restarted
        · exact restarted.serve _

theorem RecordsLawful.setReply (h : RecordsLawful s) (r : Option Reply) :
    RecordsLawful { s with reply := r } :=
  h.of_eq rfl rfl

theorem RecordsLawful.takeHead (h : RecordsLawful s) : RecordsLawful s.takeHead := by
  unfold State.takeHead
  split
  · exact h
  · exact (h.judge _).setReply _

theorem RecordsLawful.frameArrives (h : RecordsLawful s) (f : Frame) : RecordsLawful (s.frameArrives f) := by
  unfold State.frameArrives
  split
  · dsimp only
    split
    · exact h.of_eq rfl rfl
    · split
      · have held : RecordsLawful { s with intake := .search, holding := s.holding ++ [f] } :=
          h.of_eq rfl rfl
        split
        · exact held.takeHead
        · exact held
      · exact h.of_eq rfl rfl
  · exact h

theorem RecordsLawful.nextReply (h : RecordsLawful s) : RecordsLawful s.nextReply := by
  unfold State.nextReply
  split
  · split
    · exact h
    · exact h.of_eq rfl rfl
  · exact h.takeHead

theorem RecordsLawful.portReplyEnds (h : RecordsLawful s) (r : Reply) :
    RecordsLawful (s.portReplyEnds r) := by
  unfold State.portReplyEnds
  split
  · refine RecordsLawful.nextReply ?_
    exact h.of_eq rfl rfl
  · refine RecordsLawful.nextReply ?_
    exact h.of_eq rfl rfl

theorem RecordsLawful.formAnswer (h : RecordsLawful s) (x : Exchange) :
    RecordsLawful (s.formAnswer x) := by
  unfold State.formAnswer State.loopRoll State.loopCause
  split
  · exact h.of_eq rfl rfl
  · split
    · dsimp only
      exact ((h.writeLine _ _).onlyLines (changeLine_only _ _ _)).setAnswer _
    · exact h.of_eq rfl rfl
  all_goals exact h.of_eq rfl rfl

end Sys2Proof.Machine
end

/-! ## What a step can do, said once: an invariant of every step from its events -/
section
namespace Sys2Proof.Machine
open Sys2Proof.Safety

/-- Only a ROLL ends in a roll's result (TABLE 2-6). -/
def EndsBy (x : Exchange) (o : Outcome) : Prop := x.command ≠ .roll → ∀ v p m, o ≠ .rollResult v p m

theorem endsBy_window (x : Exchange) : EndsBy x x.windowOutcome := by
  intro notRoll v p m
  unfold Exchange.windowOutcome
  rw [if_neg notRoll]
  nofun

theorem classifyFrame_notRoll (x : Exchange) (b1 b2 : Byte) (payload : List Byte) (crc : Half)
    (v : Verdict) (p m : StationSet) : classifyFrame x b1 b2 payload crc ≠ .rollResult v p m := by
  unfold classifyFrame
  dsimp only
  repeat' split
  all_goals nofun

theorem classifyReply_notRoll {x : Exchange} {bytes : List Byte} {o : Outcome}
    (h : classifyReply x bytes = some o) (v : Verdict) (p m : StationSet) : o ≠ .rollResult v p m := by
  unfold classifyReply at h
  repeat' split at h
  all_goals
    cases h
  · nofun
  · nofun
  · exact classifyFrame_notRoll _ _ _ _ _ _ _ _

theorem classifyCharacters_notRoll {x : Exchange} {characters : List Character} {o : Outcome}
    (h : classifyCharacters x characters = some o) (v : Verdict) (p m : StationSet) :
    o ≠ .rollResult v p m := by
  unfold classifyCharacters at h
  split at h
  · cases h
    exact classifyReply_notRoll ‹_› v p m
  · split at h
    · cases h
      nofun
    · cases h

theorem loopAnswer_notRoll {a : LoopAnswer} {o : Outcome} (h : a.outcome? = some o) (v : Verdict)
    (p m : StationSet) : o ≠ .rollResult v p m := by
  cases a <;> cases h <;> nofun

theorem inPhase_eq_some {s : State} {p : Phase} {x : Exchange} :
    s.inPhase p = some x ↔ s.exchange = some x ∧ x.phase = p := by
  unfold State.inPhase
  split
  · rename_i y present
    rw [present]
    split
    · constructor
      · rintro ⟨rfl⟩
        exact ⟨rfl, ‹_›⟩
      · exact fun h => h.1
    · constructor
      · nofun
      · rintro ⟨⟨rfl⟩, phase⟩
        exact absurd phase ‹_›
  · rename_i absent
    rw [absent]
    simp

theorem receivingRoll_eq_some {s : State} {x : Exchange} (h : s.receivingRoll = some x) :
    s.exchange = some x ∧ x.command = .roll := by
  unfold State.receivingRoll at h
  split at h
  · split at h
    · cases h
      exact ⟨(inPhase_eq_some.1 ‹_›).1, ‹_›⟩
    · cases h
  · cases h

/-- What an invariant of every step has to be kept by: each event of the part, under the conditions in
which it has an effect. -/
structure KeptByEvents (P : State → Prop) : Prop where
  queue : ∀ s l, P s → P { s with pending := l }
  intake : ∀ s i, P s → P { s with intake := i }
  frame : ∀ s f, P s → P (s.frameArrives f)
  portReplyEnds : ∀ s r, P s → s.reply = some r → s.mode ≠ .dormant → P (s.portReplyEnds r)
  dormantReplyEnds : ∀ s, P s → s.mode = .dormant → P s.dormantReplyEnds
  commandReset : ∀ s, P s → s.sendingReset = true → P s.commandReset
  silence : ∀ s, P s → P s.silenceExpires
  look : ∀ s active u, P s → P (s.look active u)
  loss : ∀ s, P s → P s.findLoss
  testedBehind : ∀ s x u, P s → s.monitorRunning = true → s.canStart = true → s.candidate = some x →
    s.findLoss.mode ≠ .halted → P (s.findLoss.tested x u (fun _ => s.findLoss))
  clearBehind : ∀ s, P s → s.monitorRunning = true → s.takesAtOnce = true → s.findLoss.mode ≠ .halted →
    P { s.findLoss with fault := none }
  lineIdle : ∀ s x, P s → s.inPhase .sending = some x → s.mode ≠ .loopback → s.lde = false →
    P ({ s with lineActive := false }.sendFrame x)
  ends : ∀ s x o, P s → s.exchange = some x → EndsBy x o → P (s.endExchange x o)
  answerForms : ∀ s x, P s → s.inPhase .sending = some x → s.mode = .loopback →
    P ((s.formAnswer x).toPhase x x.afterSending)
  commandLeaves : ∀ s x, P s → s.inPhase .sending = some x → P (s.stopLink.toPhase x x.afterSending)
  answerStarts : ∀ s x, P s → s.inPhase .awaiting = some x → P (s.toPhase x .receiving)
  underflow : ∀ s n, P s → P (s.takeUnderflow n)
  tick : ∀ s src, P s → P (s.tickBase src)
  divider : ∀ s k, P s → P { s with fineDivider := k }
  uptime : ∀ s k, P s → P { s with uptime := k }
  silenceTick : ∀ s, P s → P s.silenceTick
  pin : ∀ s l v, P s → P (s.writeLine l { s.lines[l] with pin := v })
  filter : ∀ s l, P s → s.filtersRun = true → P (s.filterTakes l)
  softTest : ∀ s l, P s → P (s.softTest l)
  wakeTold : ∀ s w, P s → P (s.tellWake w)
  wakeOnCrystal : ∀ s, P s → s.mode = .dormant → P s.wakeOnCrystal
  wakeOnLowSpeed : ∀ s, P s → s.mode = .dormant → P s.wakeOnLowSpeed
  crystalReturns : ∀ s, P s → s.startUp = .done → s.mode ≠ .dormant → P s.crystalReturns
  startsUp : ∀ s, P s → s.startUp = .waiting → P { s with startUp := .done }.crystalReturns
  startTimeout : ∀ s, P s → s.startUp = .waiting →
    P ({ s with startUp := .done }.takeFault (faultOf .crystalLost s.uptime .configuration .stopped none))
  powerReset : ∀ s, P s → P { s.beginReset .power with supply := .below }
  supplyRises : ∀ s, P s → s.supply = .below → P { s with supply := .delay }
  supplyGood : ∀ s, P s → s.supply = .delay → P { s with supply := .good }.endReset
  pinReset : ∀ s, P s → s.resetPin = true → P { s.beginReset .pin with pinResetHeld := true }
  resetPin : ∀ s v, P s → P { s with resetPin := v }
  pinNegated : ∀ s, P s → s.pinResetHeld = true →
    P { s with resetPin := false, pinResetHeld := false }.endReset

namespace KeptByEvents

variable {P : State → Prop} (kept : KeptByEvents P) {s t : State}
include kept

theorem replyBreaks (h : P s) : P s.replyBreaks := by
  unfold State.replyBreaks
  split
  · rename_i x receiving
    unfold State.receivingReply at receiving
    split at receiving
    · rename_i y present
      split at receiving
      · cases receiving
        exact kept.ends s x .garbled h (inPhase_eq_some.1 present).1 (fun _ => nofun)
      · cases receiving
    · cases receiving
  · exact h

theorem receiveCharacter (c : Character) (h : P s) : P (s.receiveCharacter c) := by
  unfold State.receiveCharacter State.receiveByte State.completeFrame
  split
  · exact kept.intake s _ h
  · split
    · split
      · exact kept.intake s _ h
      · exact h
    · exact kept.intake s _ h
    · split
      · exact kept.intake s _ h
      · split
        · exact kept.frame s _ h
        · exact h

theorem catchUp (h : P s) : P s.catchUp := by
  unfold State.catchUp State.takeDue
  refine kept.silence _ (foldl_keeps _ (fun t n ht => ?_) h)
  split
  · exact kept.underflow t n ht
  · exact ht

theorem fineTick (h : P s) : P s.fineTick := by
  have ticked := kept.tick _ .base10us (kept.divider s (s.fineDivider + 1) h)
  unfold State.fineTick
  dsimp only
  split
  · exact kept.tick _ .base100us ticked
  · exact ticked

theorem milliTick (h : P s) : P s.milliTick := by
  have ticked := kept.tick _ .base1ms (kept.uptime s (s.uptime + 1) h)
  unfold State.milliTick
  refine kept.silenceTick _ ?_
  split
  · exact kept.tick _ .base10ms ticked
  · exact ticked

theorem lookBehindLoss (active : Bool) (u : Upset) (h : P s) : P (s.lookBehindLoss active u) := by
  unfold State.lookBehindLoss State.takeBehindLoss
  split
  · rename_i runs
    obtain ⟨running, starts⟩ := Bool.and_eq_true_iff.1 runs
    split
    · exact kept.loss s h
    · split
      · exact kept.loss s h
      · exact kept.testedBehind s _ u h running starts ‹_› ‹_›
  · exact kept.look _ active u (kept.loss s h)

theorem clearBehindLoss (tag : Byte) (h : P s) : P (s.clearBehindLoss tag) := by
  unfold State.clearBehindLoss
  split
  · rename_i meets
    obtain ⟨running, free⟩ := Bool.and_eq_true_iff.1 meets
    split
    · exact kept.loss s h
    · exact kept.clearBehind s h running free ‹_›
  · exact kept.frame _ _ (kept.loss s h)

theorem replyComplete (characters : List Character) (h : P s)
    (ends : exec (.replyComplete characters) s = .next t) : P t := by
  cases ends
  split
  · rename_i x receiving
    split
    · exact h
    · split
      · rename_i o outcome
        refine kept.ends s x o h (inPhase_eq_some.1 receiving).1 (fun _ => ?_)
        split at outcome
        · obtain ⟨a, _, formed⟩ := Option.bind_eq_some_iff.1 outcome
          exact loopAnswer_notRoll formed
        · exact classifyCharacters_notRoll outcome
      · exact h
  · exact h

/-- Every command keeps what the events keep. -/
theorem exec (h : P s) (c : Instr) (runs : exec c s = .next t) : P t := by
  have receives : ∀ tag r, Machine.exec (commandOf tag r) s = .next t → P t := by
    intro tag r runs
    rw [exec_commandOf] at runs
    cases runs
    exact kept.frame s _ h
  cases c with
  | loadSlot tag n st c p r t o payload => exact receives tag (.loadSlot n st c p r t o payload) runs
  | releaseSlot tag n => exact receives tag (.releaseSlot n) runs
  | readSlot tag n => exact receives tag (.readSlot n) runs
  | start tag set => exact receives tag (.start set) runs
  | abortSlot tag n => exact receives tag (.abortSlot n) runs
  | abortAll tag => exact receives tag .abortAll runs
  | stepEnable tag => exact receives tag .stepEnable runs
  | stepDisable tag => exact receives tag .stepDisable runs
  | stepAdvance tag => exact receives tag .stepAdvance runs
  | enroll tag st mask => exact receives tag (.enroll st mask) runs
  | withdraw tag st => exact receives tag (.withdraw st) runs
  | restore tag st => exact receives tag (.restore st) runs
  | setCauseMask tag st mask => exact receives tag (.setCauseMask st mask) runs
  | readStation tag st => exact receives tag (.readStation st) runs
  | setThreshold tag k => exact receives tag (.setThreshold k) runs
  | unmask tag l => exact receives tag (.unmask l) runs
  | raise tag l => exact receives tag (.raise l) runs
  | setLoopAttention tag l set c => exact receives tag (.setLoopAttention l set c) runs
  | readAttention tag => exact receives tag .readAttention runs
  | setTimer tag n src reload soft flags => exact receives tag (.setTimer n src reload soft flags) runs
  | readTimers tag c => exact receives tag (.readTimers c) runs
  | setMode tag m => exact receives tag (.setMode m) runs
  | reset tag => exact receives tag .reset runs
  | clearCause tag => exact receives tag .clearCause runs
  | fetch tag n => exact receives tag (.fetch n) runs
  | readFault tag => exact receives tag .readFault runs
  | clearFault tag =>
    cases tag with
    | alone tag => exact receives tag .clearFault runs
    | behindLoss tag =>
      cases runs
      exact kept.clearBehindLoss tag h
  | writeSettings tag mask values => exact receives tag (.writeSettings mask values) runs
  | readSettings tag => exact receives tag .readSettings runs
  | identify tag => exact receives tag .identify runs
  | status tag => exact receives tag .status runs
  | unknownKind tag kind body =>
    cases runs
    split
    · exact h
    · exact kept.frame s _ h
  | requestFrameComplete check =>
    cases runs
    split
    · split
      · exact kept.receiveCharacter check h
      · exact h
    · exact h
  | replyEnd =>
    cases runs
    split
    · exact h
    · rename_i r sending
      split
      · rename_i resets
        exact kept.commandReset s h (by simp [State.sendingReset, sending, resets])
      · split
        · exact kept.dormantReplyEnds s h ‹_›
        · exact kept.portReplyEnds s r h sending ‹_›
  | interByteTimeout =>
    cases runs
    exact kept.intake s _ h
  | controlPortFramingError =>
    cases runs
    exact kept.intake s _ h
  | lenOutOfRange len =>
    cases runs
    split
    · exact kept.intake s _ h
    · exact h
  | hostSilenceExpiry =>
    cases runs
    exact kept.silence s h
  | takeCandidate active upset =>
    cases runs
    cases upset with
    | alone u => exact kept.look s active u h
    | behindLoss u => exact kept.lookBehindLoss active u h
  | lineBecomesIdle =>
    cases runs
    split
    · split
      · rename_i driven
        exact kept.lineIdle s _ h ‹_› driven.1 driven.2
      · exact h
    · exact h
  | lineTestExpiry =>
    cases runs
    split
    · split
      · exact kept.ends s _ .blocked h (inPhase_eq_some.1 ‹_›).1 (fun _ => nofun)
      · exact h
    · exact h
  | commandSent =>
    cases runs
    split
    · split
      · exact kept.answerForms s _ h ‹_› ‹_›
      · split
        · exact kept.commandLeaves s _ h ‹_›
        · exact h
    · exact h
  | replyWindowExpiry =>
    cases runs
    split
    · split
      · exact kept.ends s _ _ h (inPhase_eq_some.1 ‹_›).1 (endsBy_window _)
      · exact h
    · exact h
  | replyStart =>
    cases runs
    split
    · split
      · exact kept.answerStarts s _ h ‹_›
      · exact h
    · exact h
  | replyComplete characters => exact kept.replyComplete characters h runs
  | replyStall =>
    cases runs
    exact kept.replyBreaks h
  | replyFramingError =>
    cases runs
    exact kept.replyBreaks h
  | replyNoStartMark first =>
    cases runs
    split
    · exact h
    · exact kept.replyBreaks h
  | replyLengthAbove16 c =>
    cases runs
    split
    · exact h
    · exact kept.replyBreaks h
  | rollCallOpening =>
    cases runs
    split
    · split
      · exact kept.answerStarts s _ h ‹_›
      · exact h
    · exact h
  | rollCallComplete values checks =>
    cases runs
    split
    · obtain ⟨present, rolls⟩ := receivingRoll_eq_some ‹_›
      exact kept.ends s _ _ h present (fun notRoll => absurd rolls notRoll)
    · exact h
  | rollCallBroken period values checks =>
    cases runs
    split
    · obtain ⟨present, rolls⟩ := receivingRoll_eq_some ‹_›
      split
      · exact kept.ends s _ _ h present (fun notRoll => absurd rolls notRoll)
      · exact h
    · exact h
  | broadcastGapExpiry =>
    cases runs
    split
    · exact kept.ends s _ .broadcastDone h (inPhase_eq_some.1 ‹_›).1 (fun _ => nofun)
    · exact h
  | timerUnderflow n =>
    cases runs
    split
    · exact kept.underflow s n h
    · exact h
  | attentionLineChange l v =>
    cases runs
    dsimp only
    split
    · rename_i runs
      exact kept.filter _ l (kept.pin s l v h) (Bool.and_eq_true_iff.1 runs).1
    · exact kept.pin s l v h
  | attentionFilterExpiry l =>
    cases runs
    split
    · exact kept.filter s l h ‹_›
    · exact h
  | softAttentionReport l =>
    cases runs
    exact kept.softTest s l h
  | dormantCrystalStop =>
    cases runs
    split
    · rename_i stops
      exact kept.dormantReplyEnds s h stops.1
    · exact h
  | rxdActivity =>
    cases runs
    exact kept.wakeTold s .host h
  | wakeComplete =>
    cases runs
    split
    · rename_i ready
      simp only [State.wakeReady, Bool.and_eq_true, decide_eq_true_eq] at ready
      exact kept.wakeOnCrystal s h ready.1.1
    · exact h
  | wakeCrystalTimeout =>
    cases runs
    split
    · rename_i late
      exact kept.wakeOnLowSpeed s h late.1
    · exact h
  | crystalLoss =>
    cases runs
    exact kept.loss s h
  | crystalStable =>
    cases runs
    split
    · rename_i stable
      exact kept.crystalReturns s h stable.2.2 stable.2.1
    · exact h
  | startupCrystalStable =>
    cases runs
    split
    · exact kept.startsUp s h ‹_›
    · exact h
  | crystalStartTimeout =>
    cases runs
    split
    · exact kept.startTimeout s h ‹_›
    · exact h
  | powerReset =>
    cases runs
    split
    · exact h
    · exact kept.powerReset s h
  | powerResetDelayExpiry =>
    cases runs
    split
    · exact kept.supplyGood s h ‹_›
    · exact h
  | pinReset =>
    cases runs
    split
    · rename_i asserted
      exact kept.pinReset s h asserted.1
    · exact h
  | resetPinNegated =>
    cases runs
    split
    · exact kept.pinNegated s h ‹_›
    · exact kept.resetPin s false h
  | commandReset =>
    cases runs
    split
    · exact kept.commandReset s h ‹_›
    · exact h
  | timeBaseTick d =>
    cases runs
    cases d with
    | fine =>
      dsimp only
      split
      · exact kept.fineTick (kept.catchUp h)
      · exact h
    | millisecond =>
      dsimp only
      split
      · exact h
      · split
        · exact kept.uptime s _ h
        · exact kept.milliTick (kept.catchUp h)
  | requestByteReceived c =>
    cases runs
    split
    · exact kept.receiveCharacter c h
    · exact h
  | supplyRisesAboveTripLevel =>
    cases runs
    split
    · exact kept.supplyRises s h ‹_›
    · exact h
  | resetPinAsserted =>
    cases runs
    exact kept.resetPin s true h

/-- Every step keeps what the events keep. -/
theorem step (h : P s) (runs : step s = .next t) : P t := by
  unfold Machine.step at runs
  split at runs
  · cases runs
    exact h
  · exact kept.exec (kept.queue s _ h) _ runs

end KeptByEvents

/-! ### The relations of the records -/

/-- Every event keeps the relations of R1 and R89. -/
theorem recordsLawful_kept : KeptByEvents RecordsLawful where
  queue _ _ h := h.of_eq rfl rfl
  intake _ _ h := h.of_eq rfl rfl
  frame _ f h := h.frameArrives f
  portReplyEnds _ r h _ _ := h.portReplyEnds r
  dormantReplyEnds _ h _ := h.dormantReplyEnds
  commandReset s _ _ := (beginReset_recordsLawful s .command).endReset
  silence _ h := h.silenceExpires
  look _ active u h := h.look active u
  loss _ h := h.findLoss
  testedBehind _ _ u h _ _ _ _ := h.findLoss.tested _ u (fun _ _ => h.findLoss)
  clearBehind _ h _ _ _ := h.findLoss.serve .clearFault
  lineIdle _ _ h _ _ _ := h.of_eq rfl rfl
  ends _ x o h _ _ := h.endExchange x o
  answerForms _ x h _ _ := (h.formAnswer x).of_eq rfl rfl
  commandLeaves _ _ h _ := h.of_eq rfl rfl
  answerStarts _ _ h _ := h.of_eq rfl rfl
  underflow _ n h := h.underflow 8 n
  tick _ _ h := h.of_eq rfl rfl
  divider _ _ h := h.of_eq rfl rfl
  uptime _ _ h := h.of_eq rfl rfl
  silenceTick _ h := h.of_eq rfl rfl
  pin _ _ _ h := h.of_eq rfl rfl
  filter _ _ h _ := h.onlyLines (filterTakes_only _ _)
  softTest _ _ h := h.onlySoft (softTest_only _ _)
  wakeTold _ _ h := h.onlyLines (tellWake_only _ _)
  wakeOnCrystal _ h _ := h.crystalReturns.leaveDormant
  wakeOnLowSpeed _ h _ := h.wakeOnLowSpeed
  crystalReturns _ h _ _ := h.crystalReturns
  startsUp s h _ := by
    have done : RecordsLawful { s with startUp := .done } := h.of_eq rfl rfl
    exact done.crystalReturns
  startTimeout s h _ := by
    have done : RecordsLawful { s with startUp := .done } := h.of_eq rfl rfl
    exact done.takeFault _
  powerReset s _ := (beginReset_recordsLawful s .power).of_eq rfl rfl
  supplyRises _ h _ := h.of_eq rfl rfl
  supplyGood s h _ := by
    have good : RecordsLawful { s with supply := .good } := h.of_eq rfl rfl
    exact good.endReset
  pinReset s _ _ := (beginReset_recordsLawful s .pin).of_eq rfl rfl
  resetPin _ _ h := h.of_eq rfl rfl
  pinNegated s h _ := by
    have negated : RecordsLawful { s with resetPin := false, pinResetHeld := false } := h.of_eq rfl rfl
    exact negated.endReset

end Sys2Proof.Machine

/-- Settles O57: every event keeps the relation of the slot records and the bounds of the scores. -/
theorem stepKeepsSlotsAndScores : Obligations.StepKeepsSlotsAndScores := by
  intro s t related scored runs
  have lawful := Sys2Proof.Machine.recordsLawful_kept.step ⟨related, scored⟩ runs
  exact ⟨lawful.related, lawful.scored⟩
end

/-! ## The slot requests (R7 to R12, R21, R22) and the requests that only read -/
section
namespace Sys2Proof.Machine
open Sys2Proof.Safety

/-- A set of slots is read back from its three bytes. -/
theorem slotSet_bytes (w : SlotSet) :
    slotSet (w.extractLsb' 0 8) (w.extractLsb' 8 8) (w.extractLsb' 16 8) = w := by
  apply BitVec.eq_of_getLsbD_eq
  intro k hk
  simp only [slotSet, BitVec.getLsbD_append, BitVec.getLsbD_extractLsb']
  by_cases low : k < 8
  · simp [low]
  · by_cases mid : k - 8 < 8
    · simp [low, mid, show 8 + (k - 8) = k by omega]
    · simp [low, mid, show k - 8 - 8 < 8 by omega, show 16 + (k - 8 - 8) = k by omega]

theorem readBody_start (set : SlotSet) : readBody 4 (bytes24 set) = some (.start set) := by
  show readStart (bytes24 set) = _
  simp only [bytes24, readStart, slotSet_bytes]

theorem readBody_loadSlot (n st c p r t o : Byte) (payload : List Byte) (h : payload.length ≤ 57) :
    readBody 1 (Request.body (.loadSlot n st c p r t o payload)) =
      some (.loadSlot n st c p r t o payload) := by
  show readLoadSlot (n :: st :: c :: p :: r :: t :: o :: payload) = _
  exact if_pos h


/-! ### LOAD SLOT (R7, R8) -/

theorem addressOf_big (b : Byte) (h : 32 ≤ b.toNat) : addressOf b = none := by
  simp [addressOf]; omega

theorem commandOfCode_big (b : Byte) (h : b.toNat = 0 ∨ 4 < b.toNat) : SlotCommand.ofCode b = none := by
  unfold SlotCommand.ofCode
  repeat' split
  all_goals first | rfl | (subst b; revert h; decide)

theorem commandOfCode_code (c : SlotCommand) : SlotCommand.ofCode c.code = some c := by cases c <;> rfl

theorem triggerOfCode_big (b : Byte) (h : 8 ≤ b.toNat) (immediate : b ≠ 0xFF) : triggerOfCode b = none := by
  rw [triggerOfCode, if_neg immediate, dif_neg (by omega)]

theorem triggerOfCode_code (t : Option TimerId) :
    triggerOfCode (t.elim 0xFF (fun n => byte n.val)) = some t := by
  cases t with
  | none => rfl
  | some n => revert n; decide

/-- Each value check of R7, but the slot number's, refuses the programming. -/
theorem programmed_refuses (st c p r t o : Byte) (payload : List Byte)
    (h : 32 ≤ st.toNat ∨ c.toNat = 0 ∨ 4 < c.toNat ∨ (c = 4 ∧ st ≠ 31) ∨ (c = 1 ∧ st = 31) ∨
      16 < payload.length ∨ 4 ≤ p.toNat ∨ 8 ≤ r.toNat ∨ (8 ≤ t.toNat ∧ t ≠ 0xFF) ∨ 4 ≤ o.toNat ∨
      (o.getLsbD 0 = true ∧ t = 0xFF)) :
    programmed st c p r t o payload = none := by
  unfold programmed
  split
  · rename_i a cmd trig address command trigger
    refine dif_neg ?_
    rintro ⟨priority, retries, options, fits, sync, read, repeats⟩
    have station : a.val = st.toNat := by
      unfold addressOf at address
      split at address
      · cases address; rfl
      · cases address
    have broadcast : a = 31 ↔ st = 31 := by
      rw [Fin.ext_iff, station, ← BitVec.toNat_inj]
      rfl
    rcases h with h | h | h | ⟨rfl, h⟩ | ⟨rfl, h⟩ | h | h | h | ⟨h, immediate⟩ | h | ⟨h, rfl⟩
    · rw [addressOf_big st h] at address; cases address
    · rw [commandOfCode_big c (.inl h)] at command; cases command
    · rw [commandOfCode_big c (.inr h)] at command; cases command
    · exact sync ⟨(Option.some.inj command).symm, fun q => h (broadcast.1 q)⟩
    · exact read ⟨(Option.some.inj command).symm, broadcast.2 h⟩
    · omega
    · omega
    · omega
    · rw [triggerOfCode_big t h immediate] at trigger; cases trigger
    · omega
    · exact repeats ⟨h, (Option.some.inj trigger).symm⟩
  · rfl

theorem optionBits (repeating failuresOnly : Bool) :
    let o := flagBit repeating 0 ||| flagBit failuresOnly 1
    o.toNat < 4 ∧ o.getLsbD 0 = repeating ∧ o.getLsbD 1 = failuresOnly := by
  revert repeating failuresOnly; decide

/-- The programming that a request carries is the LOADED record that R8 writes. -/
theorem programmed_accepts (a : Address) (c : SlotCommand) (payload : List Byte) (p : Fin 4) (r : Fin 8)
    (t : Option TimerId) (repeating failuresOnly : Bool) (fits : payload.length ≤ 16)
    (sync : c = .sync → a = 31) (read : c = .read → a ≠ 31) (repeats : repeating = true → t ≠ none) :
    programmed (byte a.val) c.code (byte p.val) (byte r.val) (t.elim 0xFF (fun n => byte n.val))
        (flagBit repeating 0 ||| flagBit failuresOnly 1) payload =
      some { Slot.reset with
        state := .loaded, station := a, command := c, payload := payload, priority := p, retryLimit := r
        trigger := t, repeating := repeating, failuresOnly := failuresOnly } := by
  obtain ⟨options, bit0, bit1⟩ := optionBits repeating failuresOnly
  have priority : (byte p.val).toNat = p.val := by revert p; decide
  have retries : (byte r.val).toNat = r.val := by revert r; decide
  unfold programmed
  rw [addressOf_byte, commandOfCode_code, triggerOfCode_code]
  dsimp only
  rw [dif_pos]
  · simp only [priority, retries, bit0, bit1]
  · refine ⟨by omega, by omega, options, fits, fun h => h.2 (sync h.1), fun h => read h.1 h.2, ?_⟩
    rw [bit0]
    exact fun h => repeats h.1 h.2

end Sys2Proof.Machine

section
open Sys2Proof Sys2Proof.Machine Sys2Proof.Safety

/-- Settles O10: by whether the programming passes the checks of R7, and then by the slot's state. -/
theorem loadSlotStoresItsProgramming : Obligations.LoadSlotStoresItsProgramming := by
  intro tag s free notHalted
  refine ⟨fun n st c p r t o payload short bad => ?_, ?_⟩
  · refine answered_of_serve tag (.loadSlot n st c p r t o payload) s _ _ _ free rfl
      (readBody_loadSlot n st c p r t o payload short) (.inl notHalted) ?_
    show serveLoadSlot n st c p r t o payload _ = _
    unfold serveLoadSlot
    rcases bad with number | value
    · rw [slotOf_big n number]; rfl
    · rw [programmed_refuses st c p r t o payload value]
      split <;> first | rfl | contradiction
  · intro i a c payload p r t repeating failuresOnly fits sync read repeats request
    have programs := programmed_accepts a c payload p r t repeating failuresOnly fits sync read repeats
    have body : readBody (Request.kind request) (Request.body request) = some request :=
      readBody_loadSlot _ _ _ _ _ _ _ payload (by omega)
    refine ⟨fun unarmed => ?_, fun armed => ?_⟩
    · refine answered_of_serve tag request s _ _ _ free rfl body (.inl notHalted) ?_
      show serveLoadSlot _ _ _ _ _ _ _ payload _ = _
      simp only [serveLoadSlot, slotOf_byte, programs, arrived, unarmed]
      rfl
    · refine answered_of_serve tag request s _ _ _ free rfl body (.inl notHalted) ?_
      show serveLoadSlot _ _ _ _ _ _ _ payload _ = _
      simp only [serveLoadSlot, slotOf_byte, programs, arrived, armed]
      rfl

/-- Settles O11. -/
theorem releaseSlotReturnsTheSlotToEmpty : Obligations.ReleaseSlotReturnsTheSlotToEmpty := by
  intro tag s free notHalted
  refine ⟨fun n big => ?_, fun i => ⟨fun unarmed => ?_, fun armed => ?_⟩⟩
  · refine answered_of_serve tag (.releaseSlot n) s _ _ _ free rfl rfl (.inl notHalted) ?_
    show serveReleaseSlot n _ = _
    rw [serveReleaseSlot, slotOf_big n big]
    rfl
  · refine answered_of_serve tag (.releaseSlot (byte i.val)) s _ _ _ free rfl rfl (.inl notHalted) ?_
    show serveReleaseSlot (byte i.val) _ = _
    simp only [serveReleaseSlot, slotOf_byte, arrived, unarmed]
    rfl
  · refine answered_of_serve tag (.releaseSlot (byte i.val)) s _ _ _ free rfl rfl (.inl notHalted) ?_
    show serveReleaseSlot (byte i.val) _ = _
    simp only [serveReleaseSlot, slotOf_byte, arrived, armed]
    rfl

/-- Settles O12: no read request's owner reads a field that the frame's arrival changes. -/
theorem readRequestsChangeNothing : Obligations.ReadRequestsChangeNothing := by
  intro tag s free
  refine ⟨fun notHalted => ⟨fun i => ?_, fun n big => ?_, fun st => ?_, fun n big => ?_, ?_, ?_, ?_⟩,
    ?_, ?_, ?_⟩
  · refine answered_of_serve tag (.readSlot (byte i.val)) s _ _ _ free rfl rfl (.inl notHalted) ?_
    show serveReadSlot (byte i.val) _ = _
    rw [serveReadSlot, slotOf_byte]
    rfl
  · refine answered_of_serve tag (.readSlot n) s _ _ _ free rfl rfl (.inl notHalted) ?_
    show serveReadSlot n _ = _
    rw [serveReadSlot, slotOf_big n big]
    rfl
  · refine answered_of_serve tag (.readStation (byte st.val)) s _ _ _ free rfl rfl (.inl notHalted) ?_
    show serveReadStation (byte st.val) _ = _
    rw [serveReadStation, stationOf_byte]
    rfl
  · refine answered_of_serve tag (.readStation n) s _ _ _ free rfl rfl (.inl notHalted) ?_
    show serveReadStation n _ = _
    rw [serveReadStation, stationOf_big n big]
    rfl
  · exact answered_of_serve tag .readAttention s _ _ _ free rfl rfl (.inl notHalted) rfl
  · exact answered_of_serve tag (.readTimers 0) s _ _ _ free rfl rfl (.inl notHalted) rfl
  · exact answered_of_serve tag .readSettings s _ _ _ free rfl rfl (.inl notHalted) rfl
  · exact answered_of_serve tag .readFault s _ _ _ free rfl rfl (.inr rfl) rfl
  · exact answered_of_serve tag .identify s _ _ _ free rfl rfl (.inr rfl) rfl
  · exact answered_of_serve tag .status s _ _ _ free rfl rfl (.inr rfl) rfl
end
end

/-! ## What each operation on one slot leaves (R5, R12, R15 to R21) -/
section
namespace Sys2Proof.Machine
open Sys2Proof.Safety

/-! ### The ready queue (R5) -/

/-- The queue with a slot at the back of its band, by the priorities given. -/
def bandBack (priority : SlotId → Fin 4) (i : SlotId) (q : List SlotId) : List SlotId :=
  q.takeWhile (fun j => decide (priority i ≤ priority j)) ++
    i :: q.dropWhile (fun j => decide (priority i ≤ priority j))

/-- The queue with a slot at the front of its band, by the priorities given. -/
def bandFront (priority : SlotId → Fin 4) (i : SlotId) (q : List SlotId) : List SlotId :=
  q.takeWhile (fun j => decide (priority i < priority j)) ++
    i :: q.dropWhile (fun j => decide (priority i < priority j))

/-- The priorities of a table of slots. -/
def priorities (v : Vector Slot 24) (j : SlotId) : Fin 4 := v[j].priority

theorem priorities_set (v : Vector Slot 24) (i : SlotId) (r : Slot) (h : r.priority = v[i].priority) :
    priorities (v.set i r) = priorities v :=
  funext fun j => set_keeps Slot.priority v i j r h

theorem joinBack_eq (s : State) (i : SlotId) :
    s.joinBack i = { s with ready := bandBack (priorities s.slots) i s.ready } := rfl

theorem joinBack_if (s : State) (i : SlotId) (c : Prop) [Decidable c] :
    (if c then s.joinBack i else s) =
      { s with ready := if c then bandBack (priorities s.slots) i s.ready else s.ready } := by
  split <;> rfl

theorem bandBack_perm (priority : SlotId → Fin 4) (i : SlotId) (q : List SlotId) :
    (bandBack priority i q).Perm (i :: q) := by
  refine List.perm_middle.trans (List.Perm.cons i ?_)
  rw [List.takeWhile_append_dropWhile]

theorem bandFront_perm (priority : SlotId → Fin 4) (i : SlotId) (q : List SlotId) :
    (bandFront priority i q).Perm (i :: q) := by
  refine List.perm_middle.trans (List.Perm.cons i ?_)
  rw [List.takeWhile_append_dropWhile]

/-- The slot just written. -/
theorem slot_set_same (v : Vector Slot 24) (i : SlotId) (r : Slot) : (v.set i r)[i] = r := by
  rw [slot_set, if_pos rfl]

/-! ### Starting (R12) -/

/-- The record that START writes. -/
def Slot.started (r : Slot) : Slot :=
  { r with
    state := if r.trigger = none then .ready else .waiting
    attempts := 0, outcome := none, refusal := none, response := none
    abortPending := false, abortTooLate := false, codeAgrees := true }

theorem startSlot_eq (s : State) (i : SlotId) :
    s.startSlot i = { s with
      slots := s.slots.set i s.slots[i].started
      stations := recount s.stations s.slots[i].station (fun n => n + 1)
      ready := if s.slots[i].trigger = none then bandBack (priorities s.slots) i s.ready
        else s.ready } := by
  have kept : priorities (s.slots.set i s.slots[i].started) = priorities s.slots :=
    priorities_set _ _ _ rfl
  unfold State.startSlot
  dsimp only
  rw [raiseArmed_recount, joinBack_if, ← kept]
  rfl

/-! ### Abort (R21) -/

/-- The record of a slot aborted outside an exchange. -/
def Slot.abortedAtOnce (r : Slot) : Slot :=
  { r with
    state := .aborted, outcome := some .aborted, refusal := none, response := none
    run := r.run + 1, codeAgrees := true }

theorem waits_iff (state : SlotState) : state.waits = true ↔ state = .waiting ∨ state = .ready := by
  cases state <;> simp [SlotState.waits]

theorem armed_iff (state : SlotState) :
    state.armed = true ↔ state = .waiting ∨ state = .ready ∨ state = .active := by
  cases state <;> simp [SlotState.armed]

theorem abortOne_waits (s : State) (i : SlotId) (h : s.slots[i].state.waits = true) :
    s.abortOne i = { s with
      slots := s.slots.set i s.slots[i].abortedAtOnce
      ready := s.ready.erase i
      stations := recount s.stations s.slots[i].station (fun n => n - 1) } := by
  unfold State.abortOne
  rcases (waits_iff _).1 h with h | h
  all_goals
    simp only [h, disarmTo_recount]
    rfl

theorem abortOne_active (s : State) (i : SlotId) (h : s.slots[i].state = .active) :
    s.abortOne i = { s with
      slots := s.slots.set i { s.slots[i] with abortPending := true, codeAgrees := true } } := by
  simp only [State.abortOne, h]
  rfl

theorem abortOne_unarmed (s : State) (i : SlotId) (h : s.slots[i].state.armed = false) :
    s.abortOne i = s := by
  cases hs : s.slots[i].state
  case waiting | ready | active => rw [hs] at h; cases h
  all_goals simp only [State.abortOne, hs]

/-- What ABORT ALL makes of one slot record. -/
def Slot.abortedBy (r : Slot) : Slot :=
  if r.state.waits then r.abortedAtOnce
  else if r.state = .active then { r with abortPending := true, codeAgrees := true }
  else r

theorem abortOne_slots (s : State) (i : SlotId) :
    (s.abortOne i).slots = s.slots.set i s.slots[i].abortedBy := by
  unfold Slot.abortedBy
  split
  · rw [abortOne_waits s i ‹_›]
  · split
    · rw [abortOne_active s i ‹_›]
    · rename_i notWaits notActive
      rw [abortOne_unarmed, slot_set_self]
      rw [← Bool.not_eq_true, armed_iff]
      rw [waits_iff] at notWaits
      tauto

/-- A fold of an operation that writes one slot record leaves in each slot of the list what it makes of
that record. -/
theorem foldl_slots (f : State → SlotId → State) (g : Slot → Slot)
    (h : ∀ s i, (f s i).slots = s.slots.set i (g s.slots[i])) (l : List SlotId) :
    ∀ s : State, l.Nodup → ∀ j : SlotId,
      (l.foldl f s).slots[j] = if j ∈ l then g s.slots[j] else s.slots[j] := by
  induction l with
  | nil => intro s _ j; simp
  | cons a l ih =>
    intro s distinct j
    obtain ⟨fresh, distinct⟩ := List.nodup_cons.1 distinct
    rw [List.foldl_cons, ih _ distinct, h, slot_set]
    by_cases same : a = j
    · subst same; simp [fresh]
    · simp [same, Ne.symm same]

theorem mem_allSlots (i : SlotId) : i ∈ allSlots := List.mem_finRange i

theorem allSlots_nodup : allSlots.Nodup := List.nodup_finRange 24

theorem abortAll_slots (s : State) (i : SlotId) :
    (allSlots.foldl State.abortOne s).slots[i] = s.slots[i].abortedBy := by
  rw [foldl_slots State.abortOne Slot.abortedBy abortOne_slots allSlots s allSlots_nodup,
    if_pos (mem_allSlots i)]

/-! ### The end of a slot's exchange (R16 to R20) -/

/-- The slot's run has ended with the record given: its station's armed count has fallen by 1, and its
COMPLETION report is queued where one is due. -/
def State.runEnded (s : State) (i : SlotId) (r : Slot) (report : Bool) : State :=
  { s with
    slots := s.slots.set i r
    stations := recount s.stations s.slots[i].station (fun n => n - 1)
    reports := if report then s.reports ++ [⟨s.uptime, completionBody i r⟩] else s.reports
    reserved := if report then s.reserved - 1 else s.reserved }

/-- The slot waits for its next release with the record given. -/
def State.runRepeats (s : State) (i : SlotId) (r : Slot) (report : Bool) : State :=
  { s with
    slots := s.slots.set i r
    reports := if report then s.reports ++ [⟨s.uptime, completionBody i r⟩] else s.reports
    reserved := if report then s.reserved - 1 else s.reserved }

/-- The slot has returned to READY with the record given, at the front of its band. -/
def State.runRetried (s : State) (i : SlotId) (r : Slot) : State :=
  { s with slots := s.slots.set i r, ready := bandFront (priorities s.slots) i s.ready }

/-- The record of a slot whose run has ended in a final state. -/
def Slot.finished (r : Slot) (state : SlotState) (o : SlotOutcome) (refusal : Option Byte)
    (response : Option (List Byte)) (tooLate : Bool) : Slot :=
  { r with
    state := state, outcome := some o, refusal := refusal, response := response, run := r.run + 1
    abortPending := false, abortTooLate := r.abortTooLate || tooLate, codeAgrees := true }

/-- The record of a slot that is to be tried again. -/
def Slot.retried (r : Slot) (attempts : Nat) : Slot :=
  { r with state := .ready, abortPending := false, attempts := attempts, codeAgrees := true }

/-- The record of a repeating slot whose run has ended OK. -/
def Slot.repeated (r : Slot) (payload : List Byte) : Slot :=
  { r with
    state := .waiting, outcome := some .ok, refusal := none, response := some payload
    run := r.run + 1, codeAgrees := true }

theorem reportCompletion_eq (s : State) (i : SlotId) :
    s.reportCompletion i = { s with
      reports := s.reports ++ [⟨s.uptime, completionBody i s.slots[i]⟩], reserved := s.reserved - 1 } := rfl

theorem finishSlot_eq (s : State) (i : SlotId) (state : SlotState) (o : SlotOutcome)
    (refusal : Option Byte) (response : Option (List Byte)) (tooLate report : Bool) :
    s.finishSlot i state o refusal response tooLate report =
      s.runEnded i (s.slots[i].finished state o refusal response tooLate) report := by
  unfold State.finishSlot
  dsimp only
  rw [disarmTo_recount]
  cases report with
  | true =>
    rw [if_pos rfl, reportCompletion_eq]
    dsimp only
    rw [slot_set_same]
    rfl
  | false => rfl

theorem retrySlot_eq (s : State) (i : SlotId) (n : Nat) :
    s.retrySlot i n = s.runRetried i (s.slots[i].retried n) := by
  have kept : priorities (s.slots.set i (s.slots[i].retried n)) = priorities s.slots :=
    priorities_set _ _ _ rfl
  unfold State.runRetried
  rw [← kept]
  rfl

theorem slotAck_repeats (s : State) (i : SlotId) (p : List Byte) (repeats : s.slots[i].repeating = true)
    (runs : s.slots[i].abortPending = false) :
    s.slotAck i p = s.runRepeats i (s.slots[i].repeated p) (!s.slots[i].failuresOnly) := by
  have again : (s.slots[i].repeating && !s.slots[i].abortPending) = true := by rw [repeats, runs]; rfl
  unfold State.slotAck
  dsimp only
  rw [if_pos again, reportCompletion_eq, writeSlot_slots, slot_set_same]
  split
  · have quiet : (!s.slots[i].failuresOnly) = false := by rw [‹s.slots[i].failuresOnly = true›]; rfl
    rw [quiet]
    rfl
  · have reports : (!s.slots[i].failuresOnly) = true := by
      rw [Bool.eq_false_of_not_eq_true ‹¬s.slots[i].failuresOnly = true›]; rfl
    rw [reports]
    rfl

theorem slotAck_ends (s : State) (i : SlotId) (p : List Byte)
    (ends : s.slots[i].repeating = false ∨ s.slots[i].abortPending = true) :
    s.slotAck i p = s.runEnded i
      (s.slots[i].finished .done .ok none (some p) s.slots[i].abortPending) (!s.slots[i].failuresOnly) := by
  have once : (s.slots[i].repeating && !s.slots[i].abortPending) = false := by
    rcases ends with h | h
    · rw [h, Bool.false_and]
    · rw [h, Bool.not_true, Bool.and_false]
  unfold State.slotAck
  dsimp only
  rw [once, if_neg Bool.false_ne_true, finishSlot_eq]

theorem slotUncounted_aborts (s : State) (i : SlotId) (pending : s.slots[i].abortPending = true) :
    s.slotUncounted i = s.runEnded i
      { s.slots[i].finished .aborted .aborted none none false with
        attempts := s.slots[i].attempts - 1 } true := by
  unfold State.slotUncounted
  dsimp only
  rw [if_pos pending, finishSlot_eq]
  simp only [State.runEnded, writeSlot_slots, slot_set_same, Vector.set_set]
  rfl

theorem slotUncounted_retries (s : State) (i : SlotId) (runs : s.slots[i].abortPending = false) :
    s.slotUncounted i = s.runRetried i (s.slots[i].retried (s.slots[i].attempts - 1)) := by
  have kept : priorities (s.slots.set i
      { s.slots[i] with attempts := s.slots[i].attempts - 1, codeAgrees := true }) =
      priorities s.slots := priorities_set _ _ _ rfl
  unfold State.slotUncounted
  dsimp only
  rw [if_neg (by rw [runs]; exact Bool.false_ne_true), retrySlot_eq]
  simp only [State.runRetried, writeSlot_slots, slot_set_same, Vector.set_set, kept]
  rfl

/-- A failed attempt, by the four cases of R19. -/
theorem slotFailed_eq (s : State) (i : SlotId) (link : Bool) (exhausted : SlotOutcome) :
    s.slotFailed i link exhausted =
      if (link && s.stationLostOf i) = true then
        s.runEnded i (s.slots[i].finished .failed .stationLost none none false) false
      else if s.slots[i].abortPending = true then
        s.runEnded i (s.slots[i].finished .aborted .aborted none none false) true
      else if s.slots[i].attempts ≤ s.slots[i].retryLimit.val then
        s.runRetried i (s.slots[i].retried s.slots[i].attempts)
      else s.runEnded i (s.slots[i].finished .failed exhausted none none false) true := by
  unfold State.slotFailed
  simp only [finishSlot_eq, retrySlot_eq]

theorem nak_eq (s : State) (i : SlotId) (reason : Byte) :
    s.slotEnd i (.nak reason) =
      s.runEnded i (s.slots[i].finished .failed .refused (some reason) none false) true :=
  finishSlot_eq s i .failed .refused (some reason) none false true


/-- How a slot's exchange can end (R16 to R20): its run ends in a final state, it waits for its next
release, or it returns to READY for a further attempt. A run that ends OK is reported under EVERY only, one
that ends otherwise always, but for STATION_LOST. -/
inductive SlotEnds (s : State) (i : SlotId) : State → Prop where
  | ended (r : Slot) (report : Bool) (final : r.state.armed = false) (station : r.station = s.slots[i].station)
      (policy : report = false ↔
        (r.outcome = some .ok ∧ r.failuresOnly = true) ∨ r.outcome = some .stationLost) :
      SlotEnds s i (s.runEnded i r report)
  | repeats (p : List Byte) :
      SlotEnds s i (s.runRepeats i (s.slots[i].repeated p) (!s.slots[i].failuresOnly))
  | retried (n : Nat) : SlotEnds s i (s.runRetried i (s.slots[i].retried n))

/-- A run acknowledged repeats, or ends. -/
theorem repeats_or_ends (r : Slot) : (r.repeating = true ∧ r.abortPending = false) ∨
    (r.repeating = false ∨ r.abortPending = true) := by
  cases r.repeating <;> cases r.abortPending <;> simp

theorem slotAck_cases (s : State) (i : SlotId) (p : List Byte) : SlotEnds s i (s.slotAck i p) := by
  rcases repeats_or_ends s.slots[i] with ⟨repeats, runs⟩ | ends
  · rw [slotAck_repeats s i p repeats runs]
    exact .repeats p
  · rw [slotAck_ends s i p ends]
    exact .ended _ _ rfl rfl (by simp [Slot.finished])

theorem slotFailed_cases (s : State) (i : SlotId) (link : Bool) {exhausted : SlotOutcome}
    (notOk : exhausted ≠ .ok) (notLost : exhausted ≠ .stationLost) :
    SlotEnds s i (s.slotFailed i link exhausted) := by
  rw [slotFailed_eq]
  split
  · exact .ended _ _ rfl rfl (by simp [Slot.finished])
  · split
    · exact .ended _ _ rfl rfl (by simp [Slot.finished])
    · split
      · exact .retried _
      · exact .ended _ _ rfl rfl (by simp [Slot.finished, notOk, notLost])

theorem slotUncounted_cases (s : State) (i : SlotId) : SlotEnds s i (s.slotUncounted i) := by
  cases pending : s.slots[i].abortPending
  · rw [slotUncounted_retries s i pending]
    exact .retried _
  · rw [slotUncounted_aborts s i pending]
    exact .ended _ _ rfl rfl (by simp [Slot.finished])

theorem slotEnd_cases (s : State) (i : SlotId) (o : Outcome) (notRoll : ∀ v p m, o ≠ .rollResult v p m) :
    SlotEnds s i (s.slotEnd i o) := by
  cases o with
  | ack payload => exact slotAck_cases s i payload
  | broadcastDone => exact slotAck_cases s i []
  | nak reason =>
    rw [nak_eq]
    exact .ended _ _ rfl rfl (by simp [Slot.finished])
  | busy => exact slotFailed_cases s i false nofun nofun
  | silent | garbled | echoMismatch => exact slotFailed_cases s i true nofun nofun
  | blocked | abandoned => exact slotUncounted_cases s i
  | rollResult v p m => exact absurd rfl (notRoll v p m)

/-- The slot's record and the others, once its run has ended, repeats or is retried. -/
theorem runEnded_slots (s : State) (i : SlotId) (r : Slot) (report : Bool) :
    (s.runEnded i r report).slots[i] = r := slot_set_same _ _ _

theorem runRepeats_slots (s : State) (i : SlotId) (r : Slot) (report : Bool) :
    (s.runRepeats i r report).slots[i] = r := slot_set_same _ _ _

theorem runRetried_slots (s : State) (i : SlotId) (r : Slot) : (s.runRetried i r).slots[i] = r :=
  slot_set_same _ _ _

theorem SlotEnds.slots_other {s t : State} {i j : SlotId} (h : SlotEnds s i t) (other : j ≠ i) :
    t.slots[j] = s.slots[j] := by
  have elsewhere : ∀ r : Slot, (s.slots.set i r)[j] = s.slots[j] := fun r => by
    rw [slot_set, if_neg (Ne.symm other)]
  cases h with
  | ended r => exact elsewhere r
  | repeats p => exact elsewhere _
  | retried n => exact elsewhere _

theorem slotEnd_roll (s : State) (i : SlotId) (v : Verdict) (p m : StationSet) :
    s.slotEnd i (.rollResult v p m) = s := rfl

/-- Is the outcome a roll's result? -/
theorem roll_or_not (o : Outcome) : (∃ v p m, o = .rollResult v p m) ∨ ∀ v p m, o ≠ .rollResult v p m := by
  cases o with
  | rollResult v p m => exact .inl ⟨v, p, m, rfl⟩
  | _ => exact .inr nofun

end Sys2Proof.Machine

section
open Sys2Proof Sys2Proof.Machine Sys2Proof.Safety

/-- Settles O15. -/
theorem startedSlotIsArmed : Obligations.StartedSlotIsArmed := startSlot_eq

/-- Settles O19, by the three ways in which a slot's exchange can end. -/
theorem slotEndMovesQueueAndCount : Obligations.SlotEndMovesQueueAndCount := by
  intro s i o
  rcases roll_or_not o with ⟨v, p, m, rfl⟩ | notRoll
  · rw [slotEnd_roll]
    refine ⟨fun ready notReady => absurd ready notReady, fun waiting notWaiting => absurd waiting notWaiting,
      fun active unarmed => ?_⟩
    rw [active] at unarmed
    cases unarmed
  · have ends := slotEnd_cases s i o notRoll
    generalize s.slotEnd i o = t at ends ⊢
    cases ends with
    | ended r report final station policy =>
      rw [runEnded_slots]
      refine ⟨fun ready => ?_, fun waiting => ?_, fun _ _ => ⟨rfl, rfl⟩⟩
      · rw [ready] at final; cases final
      · rw [waiting] at final; cases final
    | repeats p =>
      rw [runRepeats_slots]
      exact ⟨nofun, fun _ _ => ⟨rfl, rfl⟩, nofun⟩
    | retried n =>
      rw [runRetried_slots]
      exact ⟨fun _ _ => ⟨rfl, rfl⟩, nofun, nofun⟩

/-- Settles O20, by the three ways in which a slot's exchange can end. -/
theorem completionReportsFollowThePolicy : Obligations.CompletionReportsFollowThePolicy := by
  intro s i o _ notRoll
  have ends := slotEnd_cases s i o notRoll
  dsimp only
  generalize s.slotEnd i o = t at ends ⊢
  cases ends with
  | ended r report final station policy =>
    have notReady : r.state ≠ .ready := fun ready => by rw [ready] at final; cases final
    rw [runEnded_slots]
    cases report with
    | true => rw [if_neg (by simpa [notReady] using policy)]; rfl
    | false => rw [if_pos (.inr (policy.1 rfl))]; rfl
  | repeats p =>
    rw [runRepeats_slots]
    cases quiet : (s.slots[i].repeated p).failuresOnly
    · rw [if_neg (by simp [Slot.repeated])]
      simp only [State.runRepeats, show s.slots[i].failuresOnly = false from quiet]
      rfl
    · rw [if_pos (.inr (.inl ⟨rfl, rfl⟩))]
      simp only [State.runRepeats, show s.slots[i].failuresOnly = true from quiet]
      rfl
  | retried n =>
    rw [runRetried_slots, if_pos (.inl rfl)]
    rfl

end

section
namespace Sys2Proof.Machine

/-- The record that a run acknowledged leaves (R17). -/
theorem slotAck_record (s : State) (i : SlotId) (p : List Byte) : (s.slotAck i p).slots[i] = { s.slots[i] with
    state := if s.slots[i].repeating && !s.slots[i].abortPending then .waiting else .done
    outcome := some .ok, refusal := none, response := some p, run := s.slots[i].run + 1
    abortPending := false, abortTooLate := s.slots[i].abortTooLate || s.slots[i].abortPending
    codeAgrees := true } := by
  rcases repeats_or_ends s.slots[i] with ⟨repeats, runs⟩ | ends
  · rw [slotAck_repeats s i p repeats runs, runRepeats_slots]
    simp only [Slot.repeated, repeats, runs, Bool.or_false, Bool.not_false, Bool.and_self, if_true]
  · have once : (s.slots[i].repeating && !s.slots[i].abortPending) = false := by
      rcases ends with h | h
      · rw [h, Bool.false_and]
      · rw [h, Bool.not_true, Bool.and_false]
    rw [slotAck_ends s i p ends, runEnded_slots, once]
    rfl

/-- The record that a failed attempt leaves (R19). -/
theorem slotFailed_record (s : State) (i : SlotId) (link : Bool) (exhausted : SlotOutcome) :
    (s.slotFailed i link exhausted).slots[i] =
      if (link && s.stationLostOf i) = true then
        s.slots[i].finished .failed .stationLost none none false
      else if s.slots[i].abortPending = true then
        s.slots[i].finished .aborted .aborted none none false
      else if s.slots[i].attempts ≤ s.slots[i].retryLimit.val then
        s.slots[i].retried s.slots[i].attempts
      else s.slots[i].finished .failed exhausted none none false := by
  rw [slotFailed_eq]
  split
  · exact runEnded_slots _ _ _ _
  · split
    · exact runEnded_slots _ _ _ _
    · split
      · exact runRetried_slots _ _ _
      · exact runEnded_slots _ _ _ _

/-- The record that an attempt not counted leaves (R20). -/
theorem slotUncounted_record (s : State) (i : SlotId) : (s.slotUncounted i).slots[i] =
    if s.slots[i].abortPending = true then
      { s.slots[i].finished .aborted .aborted none none false with attempts := s.slots[i].attempts - 1 }
    else s.slots[i].retried (s.slots[i].attempts - 1) := by
  split
  · rw [slotUncounted_aborts s i ‹_›, runEnded_slots]
  · rw [slotUncounted_retries s i (Bool.eq_false_of_not_eq_true ‹_›), runRetried_slots]

/-- A run that ends without an abort come too late. -/
theorem finished_plain (r : Slot) (state : SlotState) (o : SlotOutcome) (refusal : Option Byte)
    (response : Option (List Byte)) : r.finished state o refusal response false = { r with
      state := state, outcome := some o, refusal := refusal, response := response, run := r.run + 1
      abortPending := false, codeAgrees := true } := by
  rw [Slot.finished, Bool.or_false]

theorem stationLostOf_iff (s : State) (i : SlotId) : s.stationLostOf i = true ↔
    ∃ st : StationId, s.slots[i].station = stationAddress st ∧ s.stations[st].state = .lost := by
  unfold State.stationLostOf
  split
  · rename_i broadcast
    refine ⟨nofun, ?_⟩
    rintro ⟨st, station, -⟩
    rw [station, station?_address] at broadcast
    cases broadcast
  · rename_i st addressed
    have station := address_of_station? _ _ addressed
    refine ⟨fun lost => ⟨st, station, of_decide_eq_true lost⟩, ?_⟩
    rintro ⟨k, same, lost⟩
    rw [same, station?_address] at addressed
    cases addressed
    exact decide_eq_true lost

end Sys2Proof.Machine

open Sys2Proof Sys2Proof.Machine Sys2Proof.Safety

/-- Settles O18: the owner by the exchange's kind, the loss by the station's address, and the slot's record
outcome by outcome. -/
theorem slotMovesByTheOutcome : Obligations.SlotMovesByTheOutcome := by
  refine ⟨fun s x o i kind owner => ?_, fun s x o kind => ?_, stationLostOf_iff, fun s i => ?_⟩
  · simp only [State.ownerTakes, kind, owner]
  · simp only [State.ownerTakes, kind]
  · have failed := slotFailed_record s i
    have uncounted := slotUncounted_record s i
    simp only [finished_plain] at failed uncounted
    refine ⟨slotAck_record s i, slotAck_record s i [], fun reason => ?_, failed false .busy, failed true .noReply,
      failed true .badReply, failed true .badReply, ?_, fun o j other => ?_⟩
    · rw [nak_eq, runEnded_slots, finished_plain]
    · rintro o (rfl | rfl)
      · exact uncounted
      · exact uncounted
    · rcases roll_or_not o with ⟨v, p, m, rfl⟩ | notRoll
      · rfl
      · exact (slotEnd_cases s i o notRoll).slots_other other

end
end

/-! ## START, ABORT SLOT and ABORT ALL (R11, R12, R21, R22) -/
section
namespace Sys2Proof.Machine
open Sys2Proof.Safety

/-! ### The slots of a set -/

theorem mem_chosenSlots (set : SlotSet) (i : SlotId) : i ∈ chosenSlots set ↔ set.getLsbD i.val = true := by
  simp only [chosenSlots, List.mem_filter, mem_allSlots, true_and]

theorem chosenSlots_ascending (set : SlotSet) : (chosenSlots set).Pairwise (fun i j => i < j) :=
  (List.pairwise_lt_finRange 24).filter _

theorem chosenSlots_zero : chosenSlots 0 = [] := by
  refine List.filter_eq_nil_iff.2 (fun i _ => ?_)
  simp

/-- The set of a list of slots has the bits of exactly its members. -/
theorem slotsToSet_bit (slots : List SlotId) (i : SlotId) :
    (slotsToSet slots).getLsbD i.val = decide (i ∈ slots) := by
  have one : ∀ k : SlotId, ((1 : SlotSet) <<< k.val).getLsbD i.val = decide (i = k) := by
    revert i; decide +kernel
  have bits : ∀ (l : List SlotId) (w : SlotSet),
      (l.foldl (fun w i => w ||| ((1 : SlotSet) <<< i.val)) w).getLsbD i.val =
        (w.getLsbD i.val || decide (i ∈ l)) := by
    intro l
    induction l with
    | nil => intro w; simp
    | cons k l ih =>
      intro w
      rw [List.foldl_cons, ih, BitVec.getLsbD_or, one]
      simp [Bool.or_assoc]
  rw [slotsToSet, bits]
  simp

theorem bytes24_low3 (w : SlotSet) : bytes24 w = low3 w.toNat := by
  have byteAt : ∀ k : Nat, w.extractLsb' k 8 = byte (w.toNat / 2 ^ k) := by
    intro k
    apply BitVec.eq_of_toNat_eq
    simp [byte, Nat.shiftRight_eq_div_pow]
  simp only [bytes24, low3, byteAt]
  norm_num

/-! ### START (R11) -/

/-- A slot that passes the conditions of R11. -/
def State.fit (s : State) (i : SlotId) : Prop :=
  s.slots[i].state ≠ .empty ∧ s.slots[i].state.armed = false ∧
    ∀ st : StationId, s.slots[i].station = stationAddress st →
      s.stations[st].state ≠ .vacant ∧ s.stations[st].state ≠ .lost

theorem startRefusal_empty (s : State) (i : SlotId) (h : s.slots[i].state = .empty) :
    s.startRefusal i = some .notLoaded := if_pos h

theorem startRefusal_armed (s : State) (i : SlotId) (h : s.slots[i].state.armed = true) :
    s.startRefusal i = some .slotArmed := by
  have loaded : s.slots[i].state ≠ .empty := fun empty => by rw [empty] at h; cases h
  rw [State.startRefusal, if_neg loaded, if_pos h]

/-- A slot loaded and unarmed fails by its station alone. -/
theorem startRefusal_station (s : State) (i : SlotId) (st : StationId) (loaded : s.slots[i].state ≠ .empty)
    (unarmed : s.slots[i].state.armed = false) (station : s.slots[i].station = stationAddress st) :
    s.startRefusal i = if s.stations[st].state = .vacant then some .stationVacant
      else if s.stations[st].state = .lost then some .stationLost else none := by
  rw [State.startRefusal, if_neg loaded, if_neg (by rw [unarmed]; exact Bool.false_ne_true), station,
    station?_address]

theorem startRefusal_fit (s : State) (i : SlotId) (h : s.fit i) : s.startRefusal i = none := by
  obtain ⟨loaded, unarmed, usable⟩ := h
  cases addressed : Address.station? s.slots[i].station with
  | none =>
    rw [State.startRefusal, if_neg loaded, if_neg (by rw [unarmed]; exact Bool.false_ne_true), addressed]
  | some st =>
    have station := address_of_station? _ _ addressed
    obtain ⟨notVacant, notLost⟩ := usable st station
    rw [startRefusal_station s i st loaded unarmed station, if_neg notVacant, if_neg notLost]

/-- The first slot that fails is named, with its condition. -/
theorem firstRefusal_first (s : State) (before after : List SlotId) (i : SlotId) (status : Status)
    (fits : ∀ j ∈ before, s.fit j) (refuses : s.startRefusal i = some status) :
    s.firstRefusal (before ++ i :: after) = some (i, status) := by
  unfold State.firstRefusal
  induction before with
  | nil => simp [refuses]
  | cons k before ih =>
    rw [List.cons_append, List.findSome?_cons, startRefusal_fit s k (fits k (List.mem_cons_self ..))]
    exact ih (fun j hj => fits j (List.mem_cons_of_mem k hj))

theorem firstRefusal_none (s : State) (l : List SlotId) (fits : ∀ j ∈ l, s.fit j) :
    s.firstRefusal l = none := by
  unfold State.firstRefusal
  refine List.findSome?_eq_none_iff.2 (fun j hj => ?_)
  rw [startRefusal_fit s j (fits j hj)]
  rfl

theorem serveStart_refused (set : SlotSet) (s : State) (i : SlotId) (before after : List SlotId)
    (status : Status) (traffic : s.mode = .run ∨ s.mode = .hold ∨ s.mode = .loopback)
    (chosen : chosenSlots set = before ++ i :: after) (fits : ∀ j ∈ before, s.fit j)
    (refuses : s.startRefusal i = some status) :
    serveStart set s = (s, status, [byte i.val]) := by
  have first := firstRefusal_first s before after i status fits refuses
  rw [← chosen] at first
  have nonempty : chosenSlots set ≠ [] := by rw [chosen]; simp
  unfold serveStart
  split
  · rename_i empty
    exact absurd empty nonempty
  · rename_i lowest rest chosen
    rw [chosen] at first
    rw [if_pos traffic, first]

theorem serveStart_armed (set : SlotSet) (s : State)
    (traffic : s.mode = .run ∨ s.mode = .hold ∨ s.mode = .loopback) (nonempty : chosenSlots set ≠ [])
    (fits : ∀ j ∈ chosenSlots set, s.fit j) :
    serveStart set s = accepted ((chosenSlots set).foldl State.startSlot s) := by
  have first := firstRefusal_none s _ fits
  unfold serveStart
  split
  · rename_i empty
    exact absurd empty nonempty
  · rename_i lowest rest chosen
    rw [chosen] at first ⊢
    rw [if_pos traffic, first]

end Sys2Proof.Machine

open Sys2Proof Sys2Proof.Machine Sys2Proof.Safety

/-- Settles O14: by the mode, and then by the first slot of the set that fails a condition of R11. -/
theorem startArmsAllOrNone : Obligations.StartArmsAllOrNone := by
  refine ⟨fun set => ⟨chosenSlots_ascending set, mem_chosenSlots set⟩, armed_iff, ?_⟩
  intro tag set s free notHalted fit
  have answers : ∀ status body change,
      serveStart set (arrived (requestFrame tag (.start set)) s) =
        (change (arrived (requestFrame tag (.start set)) s), status, body) →
      Answered (.start tag set) tag (.start set) s status body change := fun status body change serves =>
    answered_of_serve tag (.start set) s status body change free rfl (readBody_start set) (.inl notHalted) serves
  refine ⟨?_, fun lowest first => ⟨fun configuration => ?_, fun traffic => ⟨?_, fun fits => ?_⟩⟩⟩
  · rintro rfl
    refine answers _ _ _ ?_
    unfold serveStart
    rw [chosenSlots_zero]
    rfl
  · refine answers _ _ _ ?_
    obtain ⟨rest, chosen⟩ := List.head?_eq_some_iff.1 first
    have still : ¬ (s.mode = .run ∨ s.mode = .hold ∨ s.mode = .loopback) := by simp [configuration]
    unfold serveStart
    rw [chosen]
    exact if_neg still
  · intro i before after chosen fits
    have refused : ∀ status, s.startRefusal i = some status →
        Answered (.start tag set) tag (.start set) s status [byte i.val] (fun t => t) := fun status refuses =>
      answers _ _ _ (serveStart_refused set (arrived (requestFrame tag (.start set)) s) i before after status
        traffic chosen fits refuses)
    refine ⟨fun empty => refused _ (startRefusal_empty s i empty),
      fun armed => refused _ (startRefusal_armed s i armed), fun st loaded unarmed station => ?_⟩
    have byStation := startRefusal_station s i st loaded unarmed station
    refine ⟨fun vacant => refused _ ?_, fun lost => refused _ ?_⟩
    · rw [byStation, if_pos vacant]
    · rw [byStation, if_neg (by rw [lost]; nofun), if_pos lost]
  · refine answers _ _ _ (serveStart_armed set (arrived (requestFrame tag (.start set)) s) traffic ?_ fits)
    intro empty
    rw [empty] at first
    cases first

/-- Settles O16, by the slot's state. -/
theorem abortSlotActsOnTheSlotsState : Obligations.AbortSlotActsOnTheSlotsState := by
  intro tag s free notHalted
  refine ⟨fun n big => ?_, fun i => ?_⟩
  · refine answered_of_serve tag (.abortSlot n) s _ _ _ free rfl rfl (.inl notHalted) ?_
    show serveAbortSlot n _ = _
    rw [serveAbortSlot, slotOf_big n big]
    rfl
  · have answers : ∀ status change, s.slots[i].state.abortStatus = status →
        State.abortOne (arrived (requestFrame tag (.abortSlot (byte i.val))) s) i =
          change (arrived (requestFrame tag (.abortSlot (byte i.val))) s) →
        Answered (.abortSlot tag (byte i.val)) tag (.abortSlot (byte i.val)) s status [] change := by
      intro status change answer acts
      refine answered_of_serve tag (.abortSlot (byte i.val)) s _ _ _ free rfl rfl (.inl notHalted) ?_
      show serveAbortSlot (byte i.val) _ = _
      rw [serveAbortSlot, slotOf_byte, ← acts, ← answer]
      rfl
    refine ⟨fun waits => ?_, fun active => ?_, fun unarmed => ?_⟩
    · refine answers _ _ ?_ (abortOne_waits _ i ((waits_iff _).2 waits))
      rcases waits with waits | waits
      · rw [waits]; rfl
      · rw [waits]; rfl
    · exact answers _ _ (by rw [active]; rfl) (abortOne_active _ i active)
    · refine answers _ _ ?_ (abortOne_unarmed _ i unarmed)
      cases state : s.slots[i].state
      case waiting | ready | active => rw [state] at unarmed; cases unarmed
      all_goals rfl

/-- Settles O17: the set in the reply bit by bit, and each slot's record after the fold. -/
theorem abortAllActsOnEverySlot : Obligations.AbortAllActsOnEverySlot := by
  refine ⟨slotsToSet_bit, waits_iff, fun tag s free notHalted => ?_, abortAll_slots⟩
  refine answered_of_serve tag .abortAll s _ _ _ free rfl rfl (.inl notHalted) ?_
  rw [← bytes24_low3]
  rfl
end

/-! ## The reset state (R27, R29, R94, R118, R135, R136, R168) -/
section
namespace Sys2Proof.Machine
open Sys2Proof.Safety

theorem reset_slots (i : SlotId) : State.reset.slots[i] = Slot.reset := Vector.getElem_replicate _

theorem reset_stations (st : StationId) : State.reset.stations[st] = Station.reset :=
  Vector.getElem_replicate _

theorem reset_lines (l : LineId) : State.reset.lines[l] = Line.reset := Vector.getElem_replicate _

theorem reset_soft (l : SoftId) : State.reset.soft[l] = 0 := Vector.getElem_replicate _

theorem reset_timers (n : TimerId) : State.reset.timers[n] = Timer.reset := Vector.getElem_replicate _

/-- No slot of a table of reset records is armed for a station. -/
theorem armedFor_reset (s : State) (h : ∀ i : SlotId, s.slots[i] = Slot.reset) (st : StationId) :
    armedFor s st = [] := by
  refine List.filter_eq_nil_iff.2 (fun i _ => ?_)
  rw [h i]
  exact Bool.false_ne_true

theorem reset_records : HaltedHoldsSecond State.reset ∧ TimersBounded State.reset ∧
    SlotsRelated State.reset ∧ StationsScored State.reset := by
  refine ⟨by decide, fun n => ?_, fun i => ?_, fun st => ?_⟩
  · rw [reset_timers]; simp [TimerBounded, Timer.reset]
  · rw [reset_slots]; simp [SlotRelated, Slot.reset]
  · rw [reset_stations]; simp [StationScored, Station.reset]

theorem reset_tables : LinesLawful State.reset ∧ QueueLawful State.reset ∧ ArmedLawful State.reset ∧
    LinesFiltered State.reset := by
  refine ⟨fun l => ?_, ⟨List.nodup_nil, fun i => ?_⟩, fun st => ?_, fun l => ?_⟩
  · rw [reset_lines]
    simp [LineLawful, Line.reset]
  · rw [reset_slots]
    simp [Slot.reset, State.reset]
  · rw [armedFor_reset _ reset_slots, reset_stations]
    exact ⟨rfl, fun _ => rfl⟩
  · rw [reset_lines]
    simp [State.reset, Line.reset]

theorem reset_lawful : Lawful State.reset := by
  obtain ⟨halted, timers, slots, scores⟩ := reset_records
  obtain ⟨lines, queue, armed, filtered⟩ := reset_tables
  exact ⟨halted, timers, slots, scores, by decide, by decide, by decide, lines, queue, armed, by decide,
    by decide, filtered, (fun _ present => nomatch present), by decide, by decide, by decide⟩

end Sys2Proof.Machine

open Sys2Proof Sys2Proof.Machine Sys2Proof.Safety

/-- Settles O53. -/
theorem resetValuesAreTheStatedOnes : Obligations.ResetValuesAreTheStatedOnes := by
  refine ⟨reset_slots, rfl, rfl, rfl, rfl, rfl, rfl, rfl, rfl, reset_stations, rfl, fun l => ?_, reset_soft,
    reset_timers, rfl, rfl, rfl, rfl, rfl, rfl, rfl, rfl, rfl, rfl, rfl, rfl, rfl, rfl, rfl, rfl, rfl, rfl, rfl,
    rfl, rfl, rfl, reset_lawful⟩
  rw [reset_lines]
  exact ⟨rfl, rfl, rfl, rfl, rfl, rfl, rfl, rfl, rfl, BitVec.getLsbD_zero⟩
end

/-! ## Candidates (R6, R32, R84, R100) -/
section
namespace Sys2Proof.Machine
open Sys2Proof.Safety

/-- The first element that passes is found behind those that do not. -/
theorem find?_first {α : Type} (p : α → Bool) (before after : List α) (a : α) (passes : p a = true)
    (fails : ∀ b ∈ before, p b = false) : (before ++ a :: after).find? p = some a := by
  rw [List.find?_append, List.find?_eq_none.2 (fun b hb => by simp [fails b hb]), Option.none_or,
    List.find?_cons_of_pos passes]

/-- The least of all the numbers that passes is found in the ascending list of them. -/
theorem find?_finRange {n : Nat} (p : Fin n → Bool) (a : Fin n) (passes : p a = true)
    (fails : ∀ b, b < a → p b = false) : (List.finRange n).find? p = some a := by
  rw [List.find?_eq_some_iff_getElem]
  refine ⟨passes, a.val, by simp, by simp, fun j hj => ?_⟩
  rw [List.getElem_finRange]
  simpa using fails ⟨j, by omega⟩ hj

theorem held_iff (s : State) (i : SlotId) : s.held i = true ↔
    ∃ st : StationId, s.slots[i].station = stationAddress st ∧ (s.stations[st].state = .probing ∨
      (s.stations[st].state = .silenced ∧ s.slots[i].priority.val < 3)) := by
  unfold State.held
  split
  · rename_i broadcast
    refine ⟨nofun, ?_⟩
    rintro ⟨st, station, -⟩
    rw [station, station?_address] at broadcast
    cases broadcast
  · rename_i st addressed
    have station := address_of_station? _ _ addressed
    have only : ∀ k : StationId, s.slots[i].station = stationAddress k → k = st := by
      intro k same
      rw [same, station?_address] at addressed
      exact Option.some.inj addressed
    constructor
    · intro held
      refine ⟨st, station, ?_⟩
      split at held
      · exact .inl ‹_›
      · exact .inr ⟨‹_›, of_decide_eq_true held⟩
      all_goals cases held
    · rintro ⟨k, same, why⟩
      obtain rfl := only k same
      rcases why with probing | ⟨silenced, low⟩
      · rw [probing]
      · rw [silenced]
        exact decide_eq_true low

/-- An exchange is due on a level (R100). -/
def State.due (s : State) (l : LineId) : Prop := s.threshold.val < 4 + l.val ∧
  (s.lines[l].state = .pending ∨ s.lines[l].state = .roll ∨ s.lines[l].state = .serving)

theorem due_iff (s : State) (l : LineId) :
    (s.lineEligible l && s.lines[l].state.calling) = true ↔ s.due l := by
  rw [Bool.and_eq_true]
  refine and_congr decide_eq_true_iff ?_
  cases s.lines[l].state <;> simp [LineState.calling]

theorem rankA_none (s : State) (h : ∀ j ∈ s.ready, s.slots[j].priority = 3 → s.held j = true) :
    s.rankA = none := by
  unfold State.rankA
  rw [List.find?_eq_none.2 (fun j hj => ?_), Option.map_none]
  simp only [Bool.and_eq_true, decide_eq_true_eq, Bool.not_eq_true', not_and, Bool.not_eq_false]
  exact h j hj

theorem rankB_none (s : State) (h : ∀ l, ¬ s.due l) : s.rankB = none := by
  unfold State.rankB
  rw [List.find?_eq_none.2 (fun l _ => (due_iff s l).not.2 (h l)), Option.bind_none]

theorem rankB_highest (s : State) (l : LineId) (due : s.due l) (highest : ∀ k, l < k → ¬ s.due k) :
    s.rankB = s.levelExchange l := by
  have descending : allLines.reverse.Pairwise (fun a b => b < a) :=
    List.pairwise_reverse.2 (List.pairwise_lt_finRange 4)
  obtain ⟨before, after, split⟩ := List.append_of_mem (List.mem_reverse.2 (List.mem_finRange l) :
    l ∈ allLines.reverse)
  rw [split, List.pairwise_append] at descending
  have above : ∀ k ∈ before, l < k := fun k hk => descending.2.2 k hk l (List.mem_cons_self ..)
  unfold State.rankB
  rw [split, find?_first _ before after l ((due_iff s l).2 due), Option.bind_some]
  exact fun k hk => Bool.eq_false_of_not_eq_true ((due_iff s k).not.2 (highest k (above k hk)))

theorem rankC_none (s : State) (h : s.mode = .run → ∀ st : StationId, s.stations[st].state ≠ .probing) :
    s.rankC = none := by
  unfold State.rankC
  split
  · rw [List.find?_eq_none.2 (fun st _ => by simpa using h ‹_› st), Option.map_none]
  · rfl

end Sys2Proof.Machine

open Sys2Proof Sys2Proof.Machine Sys2Proof.Safety

/-- Settles O21: the four ranks in their order, each by the first that it finds. -/
theorem candidateIsOfTheHighestRank : Obligations.CandidateIsOfTheHighestRank := by
  refine ⟨fun _ => rfl, fun s => ?_⟩
  intro due noneUrgent noneProbing
  refine ⟨held_iff s, ?_, ?_, ?_, ?_, ?_⟩
  · intro i before after queue urgent free held
    have first : s.rankA = some (s.slotExchange i) := by
      unfold State.rankA
      rw [queue, find?_first _ before after i (by simp [urgent, free, -Fin.getElem_fin]), Option.map_some]
      intro j hj
      by_cases top : s.slots[j].priority = 3
      · simp [held j hj top, -Fin.getElem_fin]
      · simp [top, -Fin.getElem_fin]
    simp only [State.candidate, first, Option.some_or]
  · intro l quiet isDue highest
    have level : s.candidate = (s.levelExchange l).or (s.rankC.or s.rankD) := by
      simp only [State.candidate, rankA_none s quiet, rankB_highest s l isDue highest, Option.none_or,
        Option.or_assoc]
    refine ⟨fun rolls => ?_, fun st rest serving list => ?_⟩
    · have notServing : s.lines[l].state ≠ .serving := by
        rcases rolls with h | h
        · rw [h]; nofun
        · rw [h]; nofun
      rw [level, State.levelExchange, if_neg notServing, Option.some_or]
    · rw [level, State.levelExchange, if_pos serving, list]
      rfl
  · intro st quiet idle run probing first
    have probe : s.rankC = some (s.probeExchange st) := by
      unfold State.rankC
      rw [if_pos run, allStations, find?_finRange _ st (decide_eq_true probing)
        (fun k below => decide_eq_false (first k below)), Option.map_some]
    simp only [State.candidate, rankA_none s quiet, rankB_none s idle, probe, Option.none_or, Option.some_or]
  · intro i before after quiet idle noProbe queue low free held
    have last : s.rankD = some (s.slotExchange i) := by
      unfold State.rankD
      rw [queue, find?_first _ before after i (by simp [low, free, -Fin.getElem_fin]), Option.map_some]
      intro j hj
      by_cases top : s.slots[j].priority = 3
      · simp [top, -Fin.getElem_fin]
      · simp [held j hj top, -Fin.getElem_fin]
    simp only [State.candidate, rankA_none s quiet, rankB_none s idle, rankC_none s noProbe, last,
      Option.none_or]
  · intro allHeld idle noProbe
    have none : s.rankD = none := by
      unfold State.rankD
      rw [List.find?_eq_none.2 (fun j hj => by simp [allHeld j hj, -Fin.getElem_fin]), Option.map_none]
    simp only [State.candidate, rankA_none s (fun j hj _ => allHeld j hj), rankB_none s idle,
      rankC_none s noProbe, none, Option.none_or]
end

/-! ## Folds over the slot table that end armed lives (R24, R25) -/
section
namespace Sys2Proof.Machine
open Sys2Proof.Safety

theorem mapAll_at {α β : Type} {n : Nat} (f : α → β) (v : Vector α n) (k : Fin n) :
    (mapAll f v)[k] = f v[k] := getElem_mapAll f v k.val k.isLt

/-- A station entry whose armed count has fallen by `n`. -/
def Station.lowered (e : Station) (n : Nat) : Station :=
  if n = 0 then e else { e with armed := e.armed - n, codeAgrees := true }

theorem lowered_succ (e : Station) (n : Nat) :
    ({ e with armed := e.armed - 1, codeAgrees := true } : Station).lowered n = e.lowered (n + 1) := by
  unfold Station.lowered
  rw [if_neg (Nat.succ_ne_zero n)]
  split
  · subst n; rfl
  · rw [Nat.sub_sub, Nat.add_comm]

theorem recount_at (v : Vector Station 31) (a : Address) (f : Nat → Nat) (k : StationId) :
    (recount v a f)[k] =
      if a = stationAddress k then { v[k] with armed := f v[k].armed, codeAgrees := true } else v[k] := by
  unfold recount
  split
  · rename_i broadcast
    rw [if_neg]
    intro same
    rw [same, station?_address] at broadcast
    cases broadcast
  · rename_i st addressed
    have station := address_of_station? _ _ addressed
    rw [station_set]
    by_cases same : st = k
    · subst same; rw [if_pos rfl, if_pos station]
    · rw [if_neg same, if_neg]
      intro other
      rw [other, station?_address] at addressed
      exact same (Option.some.inj addressed).symm

/-- An operation on one slot ends its armed life where its record satisfies `c`: the record becomes `g` of it
and the armed count of its station falls. -/
structure EndsArmed (f : State → SlotId → State) (c : Slot → Bool) (g : Slot → Slot) : Prop where
  slots : ∀ s i, (f s i).slots = s.slots.set i (if c s.slots[i] then g s.slots[i] else s.slots[i])
  stations : ∀ s i, (f s i).stations =
    if c s.slots[i] then recount s.stations s.slots[i].station (fun n => n - 1) else s.stations

/-- The slots of a list, addressed to a station, whose records satisfy a condition. -/
def picked (c : Slot → Bool) (s : State) (k : StationId) (l : List SlotId) : List SlotId :=
  l.filter (fun i => c s.slots[i] && decide (s.slots[i].station = stationAddress k))

theorem EndsArmed.foldl_stations {f : State → SlotId → State} {c : Slot → Bool} {g : Slot → Slot}
    (h : EndsArmed f c g) (k : StationId) (l : List SlotId) : ∀ s : State, l.Nodup →
      (l.foldl f s).stations[k] = s.stations[k].lowered (picked c s k l).length := by
  induction l with
  | nil => intro s _; rfl
  | cons a l ih =>
    intro s distinct
    obtain ⟨fresh, distinct⟩ := List.nodup_cons.1 distinct
    have others : picked c (f s a) k l = picked c s k l := by
      refine List.filter_congr (fun i hi => ?_)
      have other : a ≠ i := fun same => fresh (same ▸ hi)
      rw [h.slots, slot_set, if_neg other]
    rw [List.foldl_cons, ih _ distinct, others, h.stations]
    cases ends : c s.slots[a]
    · simp [picked, ends, -Fin.getElem_fin]
    · rw [if_pos rfl, recount_at]
      by_cases addressed : s.slots[a].station = stationAddress k
      · rw [if_pos addressed, lowered_succ]
        simp [picked, ends, addressed, -Fin.getElem_fin]
      · simp [picked, ends, addressed, -Fin.getElem_fin]

theorem EndsArmed.foldl_slots {f : State → SlotId → State} {c : Slot → Bool} {g : Slot → Slot}
    (h : EndsArmed f c g) (s : State) (i : SlotId) :
    (allSlots.foldl f s).slots[i] = if c s.slots[i] then g s.slots[i] else s.slots[i] := by
  rw [Machine.foldl_slots f (fun r => if c r then g r else r) h.slots allSlots s allSlots_nodup,
    if_pos (mem_allSlots i)]

/-! ### Entry to CONFIGURATION (R25) -/

/-- One slot disarmed where it is WAITING or READY. -/
def State.disarmOne (s : State) (i : SlotId) : State :=
  if s.slots[i].state.waits then s.disarmTo i { s.slots[i] with state := .loaded } else s

theorem disarmAll_eq (s : State) :
    s.disarmAll = { allSlots.foldl State.disarmOne s with ready := [] } := by
  have one : (fun (t : State) (i : SlotId) =>
      if t.slots[i].state.waits then t.disarmTo i { t.slots[i] with state := .loaded } else t) =
      State.disarmOne := rfl
  unfold State.disarmAll
  rw [one]

theorem disarmOne_endsArmed : EndsArmed State.disarmOne (fun r => r.state.waits)
    (fun r => { r with state := .loaded, codeAgrees := true }) where
  slots s i := by
    unfold State.disarmOne
    split
    · rw [disarmTo_recount]
    · exact (slot_set_self _ _).symm
  stations s i := by
    unfold State.disarmOne
    split
    · rw [disarmTo_recount]
    · rfl

theorem disarmAll_stations (s : State) (k : StationId) :
    s.disarmAll.stations[k] = s.stations[k].lowered (picked (fun r => r.state.waits) s k allSlots).length := by
  rw [disarmAll_eq]
  dsimp only
  exact disarmOne_endsArmed.foldl_stations k allSlots s allSlots_nodup

theorem disarmAll_ready (s : State) : s.disarmAll.ready = [] := by rw [disarmAll_eq]

/-! ### The tables after a change of mode (R139) -/

section
variable (s : State) (m : Mode) (c : ModeCause)

/-- What a change of mode has written before the tables: the mode controller's items, and the dispatcher. -/
def State.modeTold (s : State) (m : Mode) : State :=
  { s with
    mode := m
    requested := none
    silence := if m = Mode.run then s.settings.silenceStart else none
    dispatcher := s.dispatcher.afterMode s.mode m }

theorem changeMode_eq :
    s.changeMode m c = (((s.modeTold m).onEntry m).onBorder s.mode m).reportMode s.mode m c none := rfl

theorem onBorder_slots (t : State) (old new : Mode) : (t.onBorder old new).slots = t.slots ∧
    (t.onBorder old new).stations = t.stations ∧ (t.onBorder old new).ready = t.ready := by
  unfold State.onBorder
  split
  · exact ⟨rfl, rfl, rfl⟩
  · split
    · exact ⟨rfl, rfl, rfl⟩
    · exact ⟨rfl, rfl, rfl⟩

theorem onEntry_other (t : State) (h : m ≠ .configuration) : t.onEntry m = t := if_neg h

theorem onEntry_configuration (t : State) : t.onEntry .configuration =
    { t.disarmAll with lines := mapAll Line.enterConfiguration t.disarmAll.lines } := if_pos rfl

theorem disarmAll_lines (t : State) : t.disarmAll.lines = t.lines := by
  have only := disarmAll_only t
  unfold OnlySlots at only
  rw [only]

/-- Outside entry to CONFIGURATION the slot table, the ready queue and the station entries stand. -/
theorem changeMode_tables_other (h : m ≠ .configuration) : (s.changeMode m c).slots = s.slots ∧
    (s.changeMode m c).stations = s.stations ∧ (s.changeMode m c).ready = s.ready := by
  rw [changeMode_eq, onEntry_other m _ h]
  exact onBorder_slots (s.modeTold m) s.mode m

/-- On entry to CONFIGURATION the slots are disarmed. -/
theorem changeMode_tables_configuration :
    (s.changeMode .configuration c).slots = (s.modeTold .configuration).disarmAll.slots ∧
    (s.changeMode .configuration c).stations = (s.modeTold .configuration).disarmAll.stations ∧
    (s.changeMode .configuration c).ready = [] := by
  have empty := disarmAll_ready (s.modeTold .configuration)
  rw [changeMode_eq, onEntry_configuration]
  generalize (s.modeTold .configuration).disarmAll = t at empty ⊢
  rw [← empty]
  exact onBorder_slots { t with lines := mapAll Line.enterConfiguration t.lines } s.mode .configuration

/-- A level's record after entry to the mode, before the border of LOOPBACK. -/
def Line.onEntry (r : Line) (m : Mode) : Line := if m = .configuration then r.enterConfiguration else r

theorem Line.onEntry_eq (r : Line) (m : Mode) : r.onEntry m =
    if m = .configuration ∧ (r.state = .roll ∨ r.state = .serving) then
      { r with
        serviceList := [], rollAttempt := false, readFailures := false
        state := if r.filtered then .pending else .quiet }
    else r := by
  unfold Line.onEntry Line.enterConfiguration
  by_cases entry : m = .configuration
  · cases state : r.state <;> simp [entry, Line.empties]
  · simp [entry]

theorem Line.onEntry_pinFilter (r : Line) (m : Mode) : (r.onEntry m).pinFilter = r.pinFilter := by
  rw [Line.onEntry_eq]
  split <;> rfl

/-- A level's record after the border of LOOPBACK. -/
def Line.onBorder (r : Line) (old new : Mode) : Line :=
  if old = .loopback ∧ new ≠ .loopback then r.leaveLoopback
  else if old ≠ .loopback ∧ new = .loopback then r.enterLoopback
  else r

theorem onEntry_lines (t : State) (l : LineId) : (t.onEntry m).lines[l] = t.lines[l].onEntry m := by
  unfold State.onEntry Line.onEntry
  split
  · refine (mapAll_at _ _ l).trans ?_
    rw [disarmAll_lines]
  · rfl

theorem onBorder_lines (t : State) (old new : Mode) (l : LineId) :
    (t.onBorder old new).lines[l] = t.lines[l].onBorder old new := by
  unfold State.onBorder Line.onBorder
  split
  · exact mapAll_at _ _ l
  · split
    · exact mapAll_at _ _ l
    · rfl

theorem changeMode_lines (l : LineId) :
    (s.changeMode m c).lines[l] = (s.lines[l].onEntry m).onBorder s.mode m := by
  rw [changeMode_eq]
  refine (onBorder_lines ((s.modeTold m).onEntry m) s.mode m l).trans ?_
  rw [onEntry_lines]
  rfl

end

theorem afterMode_eq (d : DispatcherState) (old new : Mode) : d.afterMode old new =
    if d = .busy then .busy
    else if new.traffic then
      (if old.traffic then d else if d = .stopped then .idle else d)
    else .stopped := by
  cases d <;> cases old <;> cases new <;> rfl

theorem traffic_iff (m : Mode) : m.traffic = true ↔ m = .run ∨ m = .loopback := by
  cases m <;> simp [Mode.traffic]

end Sys2Proof.Machine

open Sys2Proof Sys2Proof.Machine Sys2Proof.Safety

/-- Settles O49: the mode controller's items, the dispatcher, the tables and the levels in turn; the expiry of
the host-silence timer is the change from RUN to HOLD. -/
theorem modeChangesTakeTheirSteps : Obligations.ModeChangesTakeTheirSteps := by
  refine ⟨fun s m cause notDormant notHalted fromDormant fromHalted moves => ?_, fun s => ⟨?_, ?_⟩⟩
  · intro t cleared
    refine ⟨changeMode_mode s m cause, changeMode_requested s m cause, ?_, ?_, changeMode_reports s m cause,
      fun other => ?_, fun entry => ?_, fun l => ?_, ?_⟩
    · rw [changeMode_silence]
      by_cases run : m = .run
      · by_cases off : s.settings.hostTimeout = 0
        · simp [run, off, Settings.silenceStart]
        · simp [run, off, Settings.silenceStart]
      · simp [run]
    · rw [changeMode_dispatcher, afterMode_eq]
      simp only [traffic_iff]
    · obtain ⟨slots, stations, ready⟩ := changeMode_tables_other s m cause other
      exact ⟨slots, ready, stations⟩
    · subst entry
      obtain ⟨slots, stations, ready⟩ := changeMode_tables_configuration s cause
      refine ⟨ready, fun i => ?_, fun st => ?_⟩
      · rw [slots, disarmAll_slots]
        simp only [waits_iff]
        rfl
      · rw [stations, disarmAll_stations]
        simp only [Station.lowered, List.length_eq_zero_iff]
        rfl
    · have entered : cleared s.lines[l] = s.lines[l].onEntry m := (Line.onEntry_eq _ m).symm
      rw [changeMode_lines, entered, ← Line.onEntry_pinFilter s.lines[l] m]
      unfold Line.onBorder
      by_cases out : s.mode = .loopback
      · rw [if_pos ⟨out, fun into => moves (out.trans into.symm)⟩, if_pos out]
        rfl
      · rw [if_neg (fun both => out both.1), if_neg out]
        by_cases into : m = .loopback
        · rw [if_pos ⟨out, into⟩, if_pos into]
          rfl
        · rw [if_neg (fun both => into both.2), if_neg into]
    · exact changeMode_only s m cause
  · intro run expired
    have expires : s.silenceExpires = s.changeMode .hold .hostSilent := if_pos ⟨run, expired⟩
    have border : ((s.modeTold .hold).onEntry .hold).onBorder s.mode .hold = s.modeTold .hold := by
      rw [run]; rfl
    show Host.Outcome.next s.silenceExpires = _
    rw [expires, changeMode_eq, border, run]
    simp only [State.modeTold, run, afterMode_eq]
    rfl
  · intro still
    refine congrArg Host.Outcome.next (if_neg ?_)
    rintro ⟨run, expired⟩
    rcases still with h | h
    · exact h run
    · exact h expired
end

/-! ## The loss of a station (R24, R90, R108) -/
section
namespace Sys2Proof.Machine
open Sys2Proof.Safety

theorem stationAddress_inj {a b : StationId} (h : stationAddress a = stationAddress b) : a = b := by
  have same := congrArg Address.station? h
  rw [station?_address, station?_address] at same
  exact Option.some.inj same

/-- The record of a slot that has failed with its station. -/
def Slot.lostStation (r : Slot) : Slot :=
  { r with
    state := .failed, outcome := some .stationLost, refusal := none, response := none
    run := r.run + 1, codeAgrees := true }

/-- A record WAITING or READY for the station. -/
def Slot.waitsAt (st : StationId) (r : Slot) : Bool :=
  r.state.waits && decide (r.station = stationAddress st)

theorem waitsAt_iff (st : StationId) (r : Slot) : r.waitsAt st = true ↔
    r.station = stationAddress st ∧ (r.state = .waiting ∨ r.state = .ready) := by
  rw [Slot.waitsAt, Bool.and_eq_true, waits_iff, decide_eq_true_eq, and_comm]

/-- One slot failed where it waits for the station. -/
def State.failOne (st : StationId) (s : State) (i : SlotId) : State :=
  if s.slots[i].waitsAt st then s.failLost i else s

theorem failSlotsOf_eq (s : State) (st : StationId) :
    s.failSlotsOf st = allSlots.foldl (State.failOne st) s := by
  have one : (fun (t : State) (i : SlotId) => if t.waitsFor st i then t.failLost i else t) =
      State.failOne st := rfl
  unfold State.failSlotsOf
  rw [one]

theorem failLost_eq (s : State) (i : SlotId) : s.failLost i = { s with
    slots := s.slots.set i s.slots[i].lostStation
    stations := recount s.stations s.slots[i].station (fun n => n - 1)
    ready := s.ready.erase i } := by
  unfold State.failLost
  rw [disarmTo_recount]
  rfl

theorem failOne_endsArmed (st : StationId) :
    EndsArmed (State.failOne st) (Slot.waitsAt st) Slot.lostStation where
  slots s i := by
    unfold State.failOne
    split
    · rw [failLost_eq]
    · exact (slot_set_self _ _).symm
  stations s i := by
    unfold State.failOne
    split
    · rw [failLost_eq]
    · rfl

theorem failSlotsOf_slots (s : State) (st : StationId) (i : SlotId) : (s.failSlotsOf st).slots[i] =
    if s.slots[i].waitsAt st then s.slots[i].lostStation else s.slots[i] := by
  rw [failSlotsOf_eq]
  exact (failOne_endsArmed st).foldl_slots s i

theorem failSlotsOf_stations (s : State) (st k : StationId) : (s.failSlotsOf st).stations[k] =
    s.stations[k].lowered (picked (Slot.waitsAt st) s k allSlots).length := by
  rw [failSlotsOf_eq]
  exact (failOne_endsArmed st).foldl_stations k allSlots s allSlots_nodup

/-- No slot that waits for a station is counted for another. -/
theorem failSlotsOf_stations_other (s : State) {st k : StationId} (other : k ≠ st) :
    (s.failSlotsOf st).stations[k] = s.stations[k] := by
  have nobody : picked (Slot.waitsAt st) s k allSlots = [] := by
    refine List.filter_eq_nil_iff.2 (fun i _ => ?_)
    rw [Bool.and_eq_true, waitsAt_iff, decide_eq_true_eq]
    rintro ⟨⟨station, -⟩, same⟩
    exact other (stationAddress_inj (same.symm.trans station))
  rw [failSlotsOf_stations, nobody]
  rfl

/-- Leaving an entry with a smaller armed count keeps its other fields. -/
theorem lowered_state (e : Station) (n : Nat) : (e.lowered n).state = e.state := by
  unfold Station.lowered
  split <;> rfl

theorem lowered_score (e : Station) (n : Nat) : (e.lowered n).score = e.score := by
  unfold Station.lowered
  split <;> rfl

theorem lowered_armed (e : Station) (n : Nat) : (e.lowered n).armed = e.armed - n := by
  unfold Station.lowered
  split
  · subst n; rfl
  · rfl

/-- A queue without repetitions from which slots leave one after the other. -/
theorem failSlotsOf_ready (s : State) (st : StationId) (distinct : s.ready.Nodup) :
    (s.failSlotsOf st).ready = s.ready.filter (fun i => !s.slots[i].waitsAt st) := by
  have leaves : ∀ (l : List SlotId) (t : State), l.Nodup → t.ready.Nodup →
      (l.foldl (State.failOne st) t).ready =
        t.ready.filter (fun i => !(decide (i ∈ l) && t.slots[i].waitsAt st)) := by
    intro l
    induction l with
    | nil => intro t _ _; simp
    | cons a l ih =>
      intro t once queued
      obtain ⟨fresh, once⟩ := List.nodup_cons.1 once
      have slots := (failOne_endsArmed st).slots t a
      have ready : (State.failOne st t a).ready =
          t.ready.filter (fun i => !(decide (i = a) && t.slots[i].waitsAt st)) := by
        unfold State.failOne
        by_cases waits : t.slots[a].waitsAt st = true
        · rw [if_pos waits, failLost_eq]
          refine queued.erase_eq_filter a |>.trans (List.filter_congr fun i _ => ?_)
          by_cases same : i = a
          · subst same
            simp [waits, -Fin.getElem_fin]
          · simp [same]
        · rw [if_neg waits, List.filter_eq_self.2]
          intro i _
          by_cases same : i = a
          · subst same
            simp [waits, -Fin.getElem_fin]
          · simp [same]
      rw [List.foldl_cons, ih _ once (by rw [ready]; exact queued.filter _), ready, List.filter_filter]
      refine List.filter_congr (fun i _ => ?_)
      rw [slots, slot_set]
      by_cases same : a = i
      · subst same
        simp [fresh]
      · simp [same, Ne.symm same, -Fin.getElem_fin]
  rw [failSlotsOf_eq, leaves allSlots s allSlots_nodup distinct]
  refine List.filter_congr (fun i _ => ?_)
  simp [mem_allSlots i, -Fin.getElem_fin]

theorem dropStation_list (r : Line) (st : StationId) :
    (r.dropStation st).serviceList = r.serviceList.erase st := by
  unfold Line.dropStation
  split
  · split
    · rename_i last
      rw [last]
      rfl
    · rfl
  · rw [List.erase_of_not_mem ‹_›]

/-- The reports of a loss: STATION, with the slots that fail, and UNREAD where a list held the station. -/
def State.lossReports (s : State) (st : StationId) (reason : StationReason) (old : Option StationState)
    (own : Option SlotId) : List Report :=
  ⟨s.uptime, .station st reason old .lost s.stations[st].score none
      (allSlots.filter (fun i => s.waitsFor st i || decide (own = some i)))⟩ ::
    (if s.levelsListing st = [] then [] else [⟨s.uptime, .attnUnread st (s.levelsListing st) none⟩])

/-- What a loss leaves: the slots failed, the lists without the station, and the reports queued. -/
theorem loseStation_eq (s : State) (st : StationId) (reason : StationReason) (old : Option StationState)
    (own : Option SlotId) : s.loseStation st reason old own = { s with
      slots := (s.failSlotsOf st).slots
      stations := (s.failSlotsOf st).stations
      ready := (s.failSlotsOf st).ready
      lines := mapAll (fun r => r.dropStation st) s.lines
      reports := s.reports ++ s.lossReports st reason old own
      reserved := s.reserved - (if s.levelsListing st = [] then 1 else 2) } := by
  have score : (s.failSlotsOf st).stations[st].score = s.stations[st].score := by
    rw [failSlotsOf_stations, lowered_score]
  have only := failSlotsOf_only s st
  unfold OnlySlots at only
  unfold State.loseStation State.dropLost
  dsimp only
  rw [score]
  generalize s.failSlotsOf st = u at only ⊢
  have levels : ∀ b, (u.queueReserved b).levelsListing st = s.levelsListing st := by
    intro b
    rw [only]
    rfl
  simp only [levels]
  by_cases unlisted : s.levelsListing st = []
  · simp only [if_pos unlisted]
    rw [only]
    simp only [State.dropFromLists, State.queueReserved, State.lossReports, if_pos unlisted]
  · simp only [if_neg unlisted]
    rw [only]
    simp only [State.dropFromLists, State.queueReserved, State.lossReports, if_neg unlisted,
      List.append_assoc, List.cons_append, List.nil_append, Nat.sub_sub]

section
variable (s : State) (st : StationId) (reason : StationReason) (old : Option StationState)
  (own : Option SlotId)

theorem loseStation_slots : (s.loseStation st reason old own).slots = (s.failSlotsOf st).slots := by
  rw [loseStation_eq]

theorem loseStation_stations :
    (s.loseStation st reason old own).stations = (s.failSlotsOf st).stations := by
  rw [loseStation_eq]

theorem loseStation_ready : (s.loseStation st reason old own).ready = (s.failSlotsOf st).ready := by
  rw [loseStation_eq]

theorem loseStation_lines (l : LineId) :
    (s.loseStation st reason old own).lines[l] = s.lines[l].dropStation st := by
  rw [loseStation_eq]
  exact mapAll_at _ _ l

theorem loseStation_reports :
    (s.loseStation st reason old own).reports = s.reports ++ s.lossReports st reason old own := by
  rw [loseStation_eq]

theorem loseStation_reserved : (s.loseStation st reason old own).reserved =
    s.reserved - (if s.levelsListing st = [] then 1 else 2) := by
  rw [loseStation_eq]

end

end Sys2Proof.Machine

open Sys2Proof Sys2Proof.Machine Sys2Proof.Safety

/-- Settles O37: the fold over the slots, the reports and the lists, each by its own lemma. -/
theorem lossFailsSlotsAndClearsLists : Obligations.LossFailsSlotsAndClearsLists := by
  intro s st reason old own queued listed t fails failed levels
  have fails_iff : ∀ i, s.slots[i].waitsAt st = true ↔ fails i := fun i => waitsAt_iff st s.slots[i]
  have fails_eq : ∀ i, s.waitsFor st i = decide (fails i) := fun i => by
    rw [Bool.eq_iff_iff, decide_eq_true_eq]
    exact fails_iff i
  have counted : picked (Slot.waitsAt st) s st allSlots = failed := by
    refine List.filter_congr (fun i _ => ?_)
    rw [Bool.eq_iff_iff, Bool.and_eq_true, fails_iff, decide_eq_true_eq, decide_eq_true_eq]
    exact ⟨fun h => h.1, fun h => ⟨h, h.1⟩⟩
  refine ⟨fun i h => ?_, fun i h => ?_, ?_, ?_, loseStation_reserved s st reason old own, fun k other => ?_, ?_,
    fun l => ⟨loseStation_lines s st reason old own l, ?_⟩, ?_⟩
  · rw [loseStation_slots, failSlotsOf_slots, if_pos ((fails_iff i).2 h), Slot.lostStation]
  · rw [loseStation_slots, failSlotsOf_slots, if_neg (fun waits => h ((fails_iff i).1 waits))]
  · rw [loseStation_ready, failSlotsOf_ready s st queued]
    refine List.filter_congr fun i _ => ?_
    rw [Bool.eq_iff_iff, Bool.not_eq_true', decide_eq_true_eq, ← fails_iff, Bool.not_eq_true]
  · rw [loseStation_stations, failSlotsOf_stations, counted, Station.lowered]
    simp only [List.length_eq_zero_iff]
  · rw [loseStation_stations, failSlotsOf_stations_other s other]
  · rw [loseStation_reports]
    simp only [State.lossReports, fails_eq]
    rfl
  · rw [loseStation_lines, dropStation_list]
    exact (listed l).not_mem_erase
  · exact loseStation_only s st reason old own
end

/-! ## A taking that a check code cancels (R15, R33, R76, R165, R166) -/
section
namespace Sys2Proof.Machine
open Sys2Proof.Safety

/-! ### A fault found elsewhere than at an exchange's end -/

/-- With the record empty or retained the fault fills it, and nothing else happens. -/
theorem takeFaultElsewhere_fills (s : State) (f : FaultRecord) (room : s.fault.all FaultRecord.retained = true)
    (runs : s.mode ≠ .halted) : s.takeFaultElsewhere f = { s with fault := some f } := by
  unfold State.takeFaultElsewhere
  rw [takeFault_fills s f room, if_neg runs]

theorem abandonFlight_none (s : State) (h : s.exchange = none) : s.abandonFlight = s := by
  unfold State.abandonFlight
  rw [h]

/-- Behind a fault not retained it halts the part; with no exchange on the link nothing else happens. -/
theorem takeFaultElsewhere_halts (s : State) (f r : FaultRecord) (idle : s.exchange = none)
    (stands : s.dispatcher ≠ .busy) (filled : s.fault = some r) (fresh : r.retained = false)
    (first : r.second = none) : s.takeFaultElsewhere f = { s with
      mode := .halted, requested := none, silence := none, dispatcher := .stopped
      lde := false, linkFrame := none
      timers := mapAll (fun t : Timer => { t with due := false }) s.timers
      fault := some { r with second := some f.kind } } := by
  have stopped : s.dispatcher.afterMode s.mode .halted = .stopped := by
    rw [afterMode_eq, if_neg stands]
    rfl
  have halts := takeFault_halts s f r filled fresh first
  unfold State.enterHalted at halts
  rw [stopped] at halts
  unfold State.takeFaultElsewhere
  rw [halts]
  exact (if_pos rfl).trans (abandonFlight_none _ idle)

/-! ### The taking -/

/-- The record of a slot whose check code does not agree. -/
def Slot.failedCode (r : Slot) : Slot :=
  { r with
    state := .failed, outcome := some .internal, refusal := none, response := none
    run := r.run + 1, codeAgrees := true }

/-- A taking cancelled by its slot's check code, before its fault is passed. -/
def State.takingFailed (s : State) (i : SlotId) : State :=
  { s with
    slots := s.slots.set i s.slots[i].failedCode
    ready := s.ready.erase i
    stations := recount s.stations s.slots[i].station (fun n => n - 1)
    reports := s.reports ++ [⟨s.uptime, completionBody i s.slots[i].failedCode⟩]
    reserved := 0 }

/-- The entry of a station whose check code does not agree. -/
def Station.lostByCheck : Station := { Station.reset with state := .lost }

/-- A taking cancelled by its station's check code, before its fault is passed. -/
def State.takingLost (s : State) (st : StationId) : State :=
  { State.loseStation { s with reserved := 3, stations := s.stations.set st Station.lostByCheck } st .check none
      none with reserved := 0 }

theorem failSlotCode_eq (s : State) (i : SlotId) : s.failSlotCode i = { s with
    slots := s.slots.set i s.slots[i].failedCode
    ready := s.ready.erase i
    stations := recount s.stations s.slots[i].station (fun n => n - 1)
    reports := s.reports ++ [⟨s.uptime, completionBody i s.slots[i].failedCode⟩]
    reserved := s.reserved - 1 } := by
  unfold State.failSlotCode
  rw [disarmTo_recount, reportCompletion_eq]
  dsimp only
  rw [slot_set_same]
  rfl

/-- A storage failure of the slot cancels the taking with the slot failed. -/
theorem tested_slot (s : State) (x : Exchange) (i : SlotId) (passed : State → State)
    (owner : x.slot = some i) : s.tested x .slot passed =
      (s.takingFailed i).takeFaultElsewhere
        (faultOf .tableCheck s.uptime s.mode s.dispatcher (some x)) := by
  have bad : ({ s with reserved := 3 }.upset x .slot).badSlot x = some i := by
    simp only [State.upset, State.badSlot, owner, slot_set_same]
    rfl
  unfold State.tested
  dsimp only
  rw [bad]
  dsimp only
  rw [failSlotCode_eq]
  simp only [State.upset, owner, slot_set_same, Vector.set_set]
  rfl

/-- A storage failure of the station entry cancels the taking with the station lost. -/
theorem tested_station (s : State) (x : Exchange) (st : StationId) (passed : State → State)
    (station : x.station = stationAddress st)
    (agrees : ∀ i, x.slot = some i → s.slots[i].codeAgrees = true) : s.tested x .station passed =
      (s.takingLost st).takeFaultElsewhere
        (faultOf .tableCheck s.uptime s.mode s.dispatcher (some x)) := by
  have addressed : Address.station? x.station = some st := by rw [station, station?_address]
  have good : ({ s with reserved := 3 }.upset x .station).badSlot x = none := by
    simp only [State.upset, State.badSlot, addressed]
    split
    · rfl
    · rename_i i owner
      exact if_pos (agrees i owner)
  have bad : ({ s with reserved := 3 }.upset x .station).badStation x = some st := by
    simp only [State.upset, State.badStation, addressed, station_set, if_true]
    rfl
  have lost : ({ s with reserved := 3 }.upset x .station).loseByCheck st =
      State.loseStation { s with reserved := 3, stations := s.stations.set st Station.lostByCheck } st .check
        none none := by
    simp only [State.upset, addressed, State.loseByCheck, State.writeStation, Vector.set_set]
    rfl
  have only := loseStation_only { s with reserved := 3, stations := s.stations.set st Station.lostByCheck } st
    .check none none
  unfold OnlyTables at only
  unfold State.tested
  dsimp only
  rw [good]
  dsimp only
  rw [bad]
  dsimp only
  rw [lost, State.cancel, State.takingLost]
  generalize State.loseStation _ st .check none none = t at only ⊢
  rw [only]

/-- What a loss found between exchanges leaves (R154). -/
theorem findLoss_between (s : State) (running : s.monitorRunning = true) (starts : s.canStart = true)
    (idle : s.exchange = none) (room : s.fault.all FaultRecord.retained = true) :
    s.findLoss = State.changeMode { s with
      intake := .search, holding := [], overrun := none, reply := none
      clockSource := .lowSpeed, monitorRunning := false, crystal := .starting
      fault := some (faultOf .crystalLost s.uptime s.mode .idle none) } .hold .clock := by
  simp only [State.canStart, Bool.and_eq_true, decide_eq_true_eq] at starts
  obtain ⟨⟨⟨traffic, -⟩, dispatcher⟩, -⟩ := starts
  have awake : s.mode ≠ .dormant := fun dormant => by rw [dormant] at traffic; cases traffic
  have runs : s.mode ≠ .halted := fun halted => by rw [halted] at traffic; cases traffic
  have alone : s.crystalLost = ({ s with
      intake := .search, holding := [], overrun := none, reply := none
      clockSource := .lowSpeed, monitorRunning := false, crystal := .starting }.takeFaultElsewhere
        (faultOf .crystalLost s.uptime s.mode s.dispatcher s.exchange)).forceHold .clock := by
    unfold State.crystalLost
    dsimp only
    rw [if_neg (by rw [dispatcher]; nofun)]
    rfl
  have found : faultOf .crystalLost s.uptime s.mode s.dispatcher s.exchange =
      faultOf .crystalLost s.uptime s.mode .idle none := by rw [dispatcher, idle]
  have fills := takeFaultElsewhere_fills
    { s with
      intake := .search, holding := [], overrun := none, reply := none
      clockSource := .lowSpeed, monitorRunning := false, crystal := .starting }
    (faultOf .crystalLost s.uptime s.mode .idle none) room runs
  rw [State.findLoss, if_pos running, if_neg awake, alone, found, fills]
  exact if_pos traffic

/-- A fault behind one not retained halts a part that has no exchange on the link. -/
def State.haltedBehind (s : State) (r : FaultRecord) (kind : FaultKind) : State :=
  { s with
    mode := .halted, requested := none, silence := none, dispatcher := .stopped
    lde := false, linkFrame := none
    timers := mapAll (fun t : Timer => { t with due := false }) s.timers
    fault := some { r with second := some kind } }

/-- A part that has recorded one fault, not retained, and has no exchange on the link. -/
structure OneFault (s : State) (r : FaultRecord) : Prop where
  idle : s.exchange = none
  stands : s.dispatcher ≠ .busy
  filled : s.fault = some r
  fresh : r.retained = false
  first : r.second = none

theorem OneFault.of_tables {s t : State} {r : FaultRecord} (h : OneFault s r) (only : OnlyTables s t) :
    OneFault t r := by
  obtain ⟨idle, stands, filled, fresh, first⟩ := h
  unfold OnlyTables at only
  rw [only]
  exact ⟨idle, stands, filled, fresh, first⟩

theorem OneFault.halts {s : State} {r : FaultRecord} (h : OneFault s r) (f : FaultRecord) :
    s.takeFaultElsewhere f = s.haltedBehind r f.kind :=
  takeFaultElsewhere_halts s f r h.idle h.stands h.filled h.fresh h.first

theorem takingFailed_only (s : State) (i : SlotId) : OnlyTables s (s.takingFailed i) := rfl

theorem takingLost_only (s : State) (st : StationId) : OnlyTables s (s.takingLost st) := by
  have only := loseStation_only { s with reserved := 3, stations := s.stations.set st Station.lostByCheck } st
    .check none none
  unfold State.takingLost
  generalize State.loseStation _ st .check none none = t at only ⊢
  unfold OnlyTables at only ⊢
  rw [only]

theorem takingLost_timers (s : State) (st : StationId) : (s.takingLost st).timers = s.timers := by
  have only := takingLost_only s st
  unfold OnlyTables at only
  rw [only]

theorem takingLost_station (s : State) (st : StationId) :
    (s.takingLost st).stations[st] = Station.lostByCheck := by
  unfold State.takingLost
  dsimp only
  rw [loseStation_stations, failSlotsOf_stations, station_set, if_pos rfl]
  generalize (picked _ _ _ _).length = n
  unfold Station.lowered
  split
  · rfl
  · simp [Station.lostByCheck, Station.reset]

/-- The taking of a slot whose check code does not agree, with one fault already recorded. -/
theorem tested_slot_halts {s : State} {r : FaultRecord} (h : OneFault s r) (x : Exchange) (i : SlotId)
    (passed : State → State) (owner : x.slot = some i) :
    s.tested x .slot passed = (s.takingFailed i).haltedBehind r .tableCheck := by
  rw [tested_slot s x i passed owner]
  exact (h.of_tables (takingFailed_only s i)).halts _

/-- The taking for a station whose check code does not agree, with one fault already recorded. -/
theorem tested_station_halts {s : State} {r : FaultRecord} (h : OneFault s r) (x : Exchange) (st : StationId)
    (passed : State → State) (station : x.station = stationAddress st)
    (agrees : ∀ i, x.slot = some i → s.slots[i].codeAgrees = true) :
    s.tested x .station passed = (s.takingLost st).haltedBehind r .tableCheck := by
  rw [tested_station s x st passed station agrees]
  exact (h.of_tables (takingLost_only s st)).halts _

end Sys2Proof.Machine

open Sys2Proof Sys2Proof.Machine Sys2Proof.Safety

/-- Settles O23: the two check codes that cancel a taking, each with the record empty, with a fault not
retained, and behind a crystal loss of the moment, which has filled the record. -/
theorem takingIsCancelledByACheckCode : Obligations.TakingIsCancelledByACheckCode := by
  intro active s x starts offered fault entry lost failed halts loss held
  have conditions := starts
  simp only [State.canStart, Bool.and_eq_true, decide_eq_true_eq] at conditions
  obtain ⟨⟨⟨traffic, -⟩, dispatcher⟩, -⟩ := conditions
  have runs : s.mode ≠ .halted := fun halted => by rw [halted] at traffic; cases traffic
  have passes : faultOf .tableCheck s.uptime s.mode s.dispatcher (some x) = fault := by rw [dispatcher]; rfl
  have alone : ∀ u, exec (.takeCandidate active (.alone u)) s =
      .next (s.tested x u (fun t => t.startExchange x active)) := by
    intro u
    show Host.Outcome.next (s.look active u) = _
    rw [State.look, if_pos starts, offered]
    rfl
  have behindHeld : ∀ u, s.monitorRunning = true → s.findLoss = held → held.mode = .hold →
      exec (.takeCandidate active (.behindLoss u)) s = .next (held.tested x u (fun _ => held)) := by
    intro u running found hold
    show Host.Outcome.next (s.lookBehindLoss active u) = _
    rw [lookBehindLoss_takes s active u x running starts offered, State.takeBehindLoss, found,
      if_neg (by rw [hold]; nofun)]
  have lostIs : ∀ st t, lost st t = t.takingLost st := fun st t => by
    dsimp only [lost]
    rfl
  have haltsIs : ∀ f t, t.timers = s.timers → halts f t = t.haltedBehind f .tableCheck := fun f t same => by
    rw [State.haltedBehind, same]
  have failedIs : ∀ i t, t.slots = s.slots →
      failed i { s.slots[i] with
        state := .failed, outcome := some .internal, refusal := none, response := none
        run := s.slots[i].run + 1, codeAgrees := true } t = t.takingFailed i := fun i t same => by
    dsimp only [failed, State.takingFailed, Slot.failedCode]
    rw [same]
    rfl
  clear_value lost halts failed
  have standing : s.dispatcher ≠ .busy := by rw [dispatcher]; nofun
  have before : ∀ f : FaultRecord, s.exchange = none → s.fault = some f → f.retained = false →
      f.second = none → OneFault s f := fun f idle filled fresh first => ⟨idle, standing, filled, fresh, first⟩
  have heldOnly : OnlyMode { s with
      intake := .search, holding := [], overrun := none, reply := none
      clockSource := .lowSpeed, monitorRunning := false, crystal := .starting
      fault := some loss } held := changeMode_only _ .hold .clock
  have heldMode : held.mode = .hold := changeMode_mode _ .hold .clock
  have heldSlots : held.slots = s.slots := (changeMode_tables_other _ .hold .clock nofun).1
  have heldDispatcher : held.dispatcher ≠ .busy := by
    rw [show held.dispatcher = s.dispatcher.afterMode s.mode .hold from changeMode_dispatcher _ .hold .clock,
      afterMode_eq, if_neg standing]
    nofun
  have found : s.monitorRunning = true → s.exchange = none → s.fault.all FaultRecord.retained = true →
      s.findLoss = held := fun running idle room => findLoss_between s running starts idle room
  clear_value held
  have behindLoss : s.exchange = none → OneFault held loss := by
    unfold OnlyMode at heldOnly
    rw [heldOnly]
    exact fun idle => ⟨idle, heldDispatcher, rfl, rfl, rfl⟩
  have heldTimers : held.timers = s.timers := by
    unfold OnlyMode at heldOnly
    rw [heldOnly]
  refine ⟨fun st => ?_, fun i r kind owner record => ?_, fun st station agrees => ?_⟩
  · rw [lostIs]
    exact takingLost_station s st
  · subst record
    refine ⟨fun room => ?_, fun f idle filled fresh first => ?_, fun running idle room => ?_⟩
    · rw [alone, tested_slot s x i _ owner, passes, failedIs i s rfl]
      exact congrArg Host.Outcome.next (takeFaultElsewhere_fills (s.takingFailed i) fault room runs)
    · rw [alone, tested_slot_halts (before f idle filled fresh first) x i _ owner, failedIs i s rfl,
        haltsIs f (s.takingFailed i) rfl]
    · rw [behindHeld .slot running (found running idle room) heldMode,
        tested_slot_halts (behindLoss idle) x i _ owner, failedIs i held heldSlots,
        haltsIs loss (held.takingFailed i) heldTimers]
  · refine ⟨fun room => ?_, fun f idle filled fresh first => ?_, fun running idle room => ?_⟩
    · have only := takingLost_only s st
      unfold OnlyTables at only
      rw [alone, tested_station s x st _ station agrees, passes,
        takeFaultElsewhere_fills (s.takingLost st) fault (by rw [only]; exact room) (by rw [only]; exact runs),
        lostIs]
    · rw [alone, tested_station_halts (before f idle filled fresh first) x st _ station agrees, lostIs,
        haltsIs f _ (takingLost_timers s st)]
    · rw [behindHeld .station running (found running idle room) heldMode,
        tested_station_halts (behindLoss idle) x st _ station (fun i owner => heldSlots ▸ agrees i owner), lostIs,
        haltsIs loss _ ((takingLost_timers held st).trans heldTimers)]
end

/-! ## Underflows (R13, R111, R123 to R125, R148) -/
section
namespace Sys2Proof.Machine
open Sys2Proof.Safety

/-- A record that an underflow of the timer makes READY. -/
def Slot.joinsBy (n : TimerId) (r : Slot) : Bool := decide (r.trigger = some n) && decide (r.state = .waiting)

theorem releaseSlot_ready (s : State) (n : TimerId) (i : SlotId) : (s.releaseSlot n i).ready =
    if s.slots[i].joinsBy n then bandBack (priorities s.slots) i s.ready else s.ready := by
  unfold State.releaseSlot Slot.joinsBy
  dsimp only
  by_cases bound : s.slots[i].trigger = some n
  · rw [if_pos bound]
    cases state : s.slots[i].state
    case waiting =>
      have kept := priorities_set s.slots i
        { s.slots[i] with state := .ready, attempts := 0, codeAgrees := true } rfl
      dsimp only
      rw [joinBack_eq, decide_eq_true bound, ← kept]
      rfl
    case ready | active =>
      dsimp only
      split <;> simp [State.writeSlot]
    all_goals simp
  · rw [if_neg bound, decide_eq_false bound]
    rfl

theorem releaseSlot_priorities (s : State) (n : TimerId) (i : SlotId) :
    priorities (s.releaseSlot n i).slots = priorities s.slots := by
  rw [releaseSlot_slots]
  refine priorities_set _ _ _ ?_
  unfold releasedBy
  split
  · split
    · rfl
    · split <;> rfl
    · split <;> rfl
    all_goals rfl
  · rfl

/-- Slots join the ready queue one after the other, in the order of the table. -/
theorem releaseAll_ready (n : TimerId) (l : List SlotId) : ∀ s : State, l.Nodup →
    (l.foldl (fun t i => t.releaseSlot n i) s).ready =
      (l.filter (fun i => s.slots[i].joinsBy n)).foldl
        (fun q i => bandBack (priorities s.slots) i q) s.ready := by
  induction l with
  | nil => intro s _; rfl
  | cons a l ih =>
    intro s distinct
    obtain ⟨fresh, distinct⟩ := List.nodup_cons.1 distinct
    have later : l.filter (fun i => (s.releaseSlot n a).slots[i].joinsBy n) =
        l.filter (fun i => s.slots[i].joinsBy n) := by
      refine List.filter_congr (fun i hi => ?_)
      rw [releaseSlot_slots, slot_set, if_neg (fun same : a = i => fresh (same ▸ hi))]
    rw [List.foldl_cons, ih _ distinct, later, releaseSlot_priorities, releaseSlot_ready, List.filter_cons]
    split <;> rfl

/-- Outside DORMANT every slot of the table takes the underflow. -/
theorem releaseSlots_slots (s : State) (n : TimerId) (i : SlotId) : (s.releaseSlots n).slots[i] =
    if s.mode = .dormant then s.slots[i] else releasedBy n s.slots[i] := by
  unfold State.releaseSlots
  split
  · rfl
  · rw [releaseAll_slots n allSlots s allSlots_nodup, if_pos (mem_allSlots i)]

theorem releaseSlots_ready (s : State) (n : TimerId) : (s.releaseSlots n).ready =
    if s.mode = .dormant then s.ready else
      (allSlots.filter (fun i => s.slots[i].joinsBy n)).foldl
        (fun q i => bandBack (priorities s.slots) i q) s.ready := by
  unfold State.releaseSlots
  split
  · rfl
  · exact releaseAll_ready n allSlots s allSlots_nodup

/-- Only the slot table and the ready queue take a release. -/
theorem releaseSlots_onlySlots (s : State) (n : TimerId) : OnlySlots s (s.releaseSlots n) := by
  have each : ∀ (l : List SlotId) (t : State), OnlySlots t (l.foldl (fun t i => t.releaseSlot n i) t) := by
    intro l
    induction l with
    | nil => exact fun t => OnlySlots.refl t
    | cons a l ih => exact fun t => (releaseSlot_only t n a).trans (ih (t.releaseSlot n a))
  unfold State.releaseSlots
  split
  · exact OnlySlots.refl s
  · exact each allSlots s

/-! ### The origin of an underflow -/

/-- The gate of a SOFT report with an origin added (R112). -/
def State.gateOpen (s : State) (l : SoftId) : Prop :=
  s.threshold.val < 1 + l.val ∧ s.mode ≠ .dormant ∧ s.mode ≠ .halted ∧ s.exchangeOccupied + s.reserved ≤ 27

theorem softAdmitted_iff (s : State) (l : SoftId) :
    s.softAdmitted l = true ↔ s.soft[l] ≠ 0 ∧ s.gateOpen l := by
  simp only [State.softAdmitted, State.softEligible, State.gateOpen, Bool.and_eq_true, bne_iff_ne,
    decide_eq_true_eq, and_assoc]

theorem origins_set_same (v : Vector Origins 3) (l : SoftId) (o : Origins) : (v.set l o)[l] = o :=
  Vector.getElem_set_self l.isLt

theorem addOrigin_open (s : State) (l : SoftId) (o : Origins) (added : o ≠ 0) (passes : s.gateOpen l) :
    s.addOrigin l o = { s with
      soft := s.soft.set l 0
      reports := s.reports ++ [⟨s.uptime, .attnSoft l (s.soft[l] ||| o)⟩] } := by
  have admitted : (s.writeSoft l (s.soft[l] ||| o)).softAdmitted l = true := by
    refine (softAdmitted_iff _ l).2 ⟨?_, passes⟩
    simp only [State.writeSoft, origins_set_same]
    exact fun empty => added (BitVec.or_eq_zero_iff.1 empty).2
  rw [State.addOrigin, State.softTest, if_pos admitted]
  simp [State.writeSoft, State.queueReport]

theorem addOrigin_shut (s : State) (l : SoftId) (o : Origins) (shut : ¬ s.gateOpen l) :
    s.addOrigin l o = { s with soft := s.soft.set l (s.soft[l] ||| o) } := by
  have held : ¬ (s.writeSoft l (s.soft[l] ||| o)).softAdmitted l = true :=
    fun admitted => shut ((softAdmitted_iff _ l).1 admitted).2
  rw [State.addOrigin, State.softTest, if_neg held]
  rfl

theorem originBit_ne_zero (n : TimerId) : (1 : Origins) <<< (n.val + 1) ≠ 0 := by
  revert n
  decide

theorem soft?_none (r : Timer) (h : r.softLevel = 0) : r.soft? = none := by
  exact dif_neg (by simp [h])

theorem soft?_some (r : Timer) (l : SoftId) (h : r.softLevel.val = l.val + 1) : r.soft? = some l := by
  rw [Timer.soft?, dif_pos (by omega)]
  exact congrArg some (Fin.ext (by simp [h]))

/-! ### One underflow -/

/-- The table and the timer's own record, before the attention unit and the mode controller take it. -/
def State.released (s : State) (n : TimerId) : State := (s.writeTimer n s.timers[n].atUnderflow).releaseSlots n

theorem released_only (s : State) (n : TimerId) :
    OnlySlots (s.writeTimer n s.timers[n].atUnderflow) (s.released n) := releaseSlots_onlySlots _ n

theorem released_timers (s : State) (n : TimerId) :
    (s.released n).timers = s.timers.set n s.timers[n].atUnderflow := releaseSlots_timers _ n

theorem timerWakes_eq (t : State) (n : TimerId) : t.timerWakes n =
    if t.mode = .dormant ∧ t.wake = none ∧ t.timers[n].wakeEnable = true then
      { t with wake := some (.timer n), crystal := t.crystal.startedFromOff }
    else t := by
  unfold State.timerWakes State.tellWake
  by_cases enabled : t.timers[n].wakeEnable = true
  · simp only [enabled, and_true, if_true]
  · rw [if_neg enabled, if_neg (fun all => enabled all.2.2)]

theorem addTimerOrigin_onlySoft (t : State) (n : TimerId) : OnlySoft t (t.addTimerOrigin n) := by
  unfold State.addTimerOrigin
  split
  · exact OnlySoft.refl t
  · exact addOrigin_only t _ _

/-- The mode controller takes an underflow last, and writes the wake source and the crystal alone. -/
theorem timerWakes_leaves (t : State) (n : TimerId) : (t.timerWakes n).slots = t.slots ∧
    (t.timerWakes n).ready = t.ready ∧ (t.timerWakes n).soft = t.soft ∧
    (t.timerWakes n).reports = t.reports := by
  rw [timerWakes_eq]
  split <;> exact ⟨rfl, rfl, rfl, rfl⟩

section
variable (s : State) (n : TimerId)

theorem handOut_slots (i : SlotId) : (s.handOut n).slots[i] =
    if s.mode = .dormant then s.slots[i] else releasedBy n s.slots[i] := by
  have soft := addTimerOrigin_onlySoft (s.released n) n
  unfold OnlySoft at soft
  have slots : (s.handOut n).slots = (s.released n).slots :=
    (timerWakes_leaves ((s.released n).addTimerOrigin n) n).1.trans (by rw [soft])
  rw [slots]
  exact releaseSlots_slots (s.writeTimer n s.timers[n].atUnderflow) n i

theorem handOut_ready : (s.handOut n).ready = if s.mode = .dormant then s.ready else
    (allSlots.filter (fun i => s.slots[i].joinsBy n)).foldl
      (fun q i => bandBack (priorities s.slots) i q) s.ready := by
  have soft := addTimerOrigin_onlySoft (s.released n) n
  unfold OnlySoft at soft
  have ready : (s.handOut n).ready = (s.released n).ready :=
    (timerWakes_leaves ((s.released n).addTimerOrigin n) n).2.1.trans (by rw [soft])
  rw [ready]
  exact releaseSlots_ready (s.writeTimer n s.timers[n].atUnderflow) n

/-- The soft levels and the reports are as the attention unit leaves them. -/
theorem handOut_soft : (s.handOut n).soft = ((s.released n).addTimerOrigin n).soft ∧
    (s.handOut n).reports = ((s.released n).addTimerOrigin n).reports :=
  (timerWakes_leaves ((s.released n).addTimerOrigin n) n).2.2

/-- The timer's configuration outlives its own underflow. -/
theorem released_timer : (s.released n).timers[n].softLevel = s.timers[n].softLevel ∧
    (s.released n).timers[n].wakeEnable = s.timers[n].wakeEnable := by
  rw [released_timers, timer_set, if_pos rfl]
  exact ⟨rfl, rfl⟩

theorem handOut_soft_none (h : s.timers[n].softLevel = 0) :
    (s.handOut n).soft = s.soft ∧ (s.handOut n).reports = s.reports := by
  have level : (s.released n).timers[n].soft? = none := soft?_none _ ((released_timer s n).1.trans h)
  have table := released_only s n
  unfold OnlySlots at table
  rw [(handOut_soft s n).1, (handOut_soft s n).2, State.addTimerOrigin, level, table]
  exact ⟨rfl, rfl⟩

theorem addTimerOrigin_some (l : SoftId) (h : s.timers[n].softLevel.val = l.val + 1) :
    (s.released n).addTimerOrigin n = (s.released n).addOrigin l ((1 : Origins) <<< (n.val + 1)) := by
  have level : (s.released n).timers[n].soft? = some l :=
    soft?_some _ l ((congrArg Fin.val (released_timer s n).1).trans h)
  rw [State.addTimerOrigin, level]

theorem handOut_soft_open (l : SoftId) (h : s.timers[n].softLevel.val = l.val + 1) (passes : s.gateOpen l) :
    (s.handOut n).soft = s.soft.set l 0 ∧ (s.handOut n).reports =
      s.reports ++ [⟨s.uptime, .attnSoft l (s.soft[l] ||| (1 : Origins) <<< (n.val + 1))⟩] := by
  have table := released_only s n
  unfold OnlySlots at table
  have still : (s.released n).gateOpen l := by
    rw [table]
    exact passes
  rw [(handOut_soft s n).1, (handOut_soft s n).2, addTimerOrigin_some s n l h,
    addOrigin_open _ l _ (originBit_ne_zero n) still]
  dsimp only
  rw [table]
  exact ⟨rfl, rfl⟩

theorem handOut_soft_shut (l : SoftId) (h : s.timers[n].softLevel.val = l.val + 1) (shut : ¬ s.gateOpen l) :
    (s.handOut n).soft = s.soft.set l (s.soft[l] ||| (1 : Origins) <<< (n.val + 1)) ∧
      (s.handOut n).reports = s.reports := by
  have table := released_only s n
  unfold OnlySlots at table
  have still : ¬ (s.released n).gateOpen l := by
    rw [table]
    exact shut
  rw [(handOut_soft s n).1, (handOut_soft s n).2, addTimerOrigin_some s n l h, addOrigin_shut _ l _ still]
  dsimp only
  rw [table]
  exact ⟨rfl, rfl⟩

theorem startedFromOff_eq (c : Crystal) : c.startedFromOff = if c = .off then .starting else c := by
  cases c <;> rfl

/-- The wake source and the crystal after an underflow (R148). -/
theorem handOut_wake : if s.mode = .dormant ∧ s.wake = none ∧ s.timers[n].wakeEnable = true then
      (s.handOut n).wake = some (.timer n) ∧ (s.handOut n).crystal = s.crystal.startedFromOff
    else (s.handOut n).wake = s.wake ∧ (s.handOut n).crystal = s.crystal := by
  have table := released_only s n
  have soft := addTimerOrigin_onlySoft (s.released n) n
  have enable := (released_timer s n).2
  unfold OnlySlots at table
  unfold OnlySoft at soft
  have stands : ((s.released n).addTimerOrigin n).mode = s.mode ∧
      ((s.released n).addTimerOrigin n).wake = s.wake ∧
      ((s.released n).addTimerOrigin n).crystal = s.crystal ∧
      ((s.released n).addTimerOrigin n).timers[n].wakeEnable = s.timers[n].wakeEnable := by
    rw [soft]
    refine ⟨?_, ?_, ?_, enable⟩ <;> rw [table] <;> rfl
  obtain ⟨mode, wake, crystal, enabled⟩ := stands
  show if _ then (((s.released n).addTimerOrigin n).timerWakes n).wake = _ ∧
      (((s.released n).addTimerOrigin n).timerWakes n).crystal = _
    else (((s.released n).addTimerOrigin n).timerWakes n).wake = _ ∧
      (((s.released n).addTimerOrigin n).timerWakes n).crystal = _
  rw [timerWakes_eq, mode, wake, enabled]
  split
  · exact ⟨rfl, congrArg Crystal.startedFromOff crystal⟩
  · exact ⟨wake, crystal⟩

end

/-! ### The chain (R125) -/

theorem takeUnderflow_above (s : State) (n m : TimerId) (next : m.val = n.val + 1) : s.takeUnderflow n =
    if s.timers[m].source = .cascade ∧ s.timers[m].enabled = true then
      if 1 < s.timers[m].count then
        (s.handOut n).writeTimer m { s.timers[m] with count := s.timers[m].count - 1 }
      else (s.handOut n).takeUnderflow m
    else s.handOut n := by
  obtain ⟨above, bound⟩ := m
  obtain rfl : above = n.val + 1 := next
  have stands : (s.handOut n).timers[(⟨n.val + 1, bound⟩ : TimerId)] =
      s.timers[(⟨n.val + 1, bound⟩ : TimerId)] := by
    rw [handOut_timers, timer_set, if_neg]
    intro same
    exact absurd (congrArg Fin.val same) (Nat.ne_of_lt (Nat.lt_succ_self n.val))
  rw [takeUnderflow_eq, dif_pos bound]
  dsimp only
  rw [stands]

/-! ### One slot's record and one timer's -/

theorem min_eq_if (a k : Nat) : min k (a + 1) = if a < k then a + 1 else k := by
  split <;> omega

theorem atUnderflow_eq (r : Timer) : r.atUnderflow = { r with
    enabled := if r.oneShot then false else true
    count := if r.oneShot then 0 else r.reload
    tally := if r.tally < 15 then r.tally + 1 else 15
    due := false } := by
  rw [Timer.atUnderflow, min_eq_if]
  cases r.oneShot <;> rfl

theorem releasedBy_waiting (n : TimerId) (r : Slot) (bound : r.trigger = some n) (state : r.state = .waiting) :
    releasedBy n r = { r with state := .ready, attempts := 0, codeAgrees := true } := by
  rw [releasedBy, if_pos bound, state]

theorem releasedBy_late (n : TimerId) (r : Slot) (bound : r.trigger = some n)
    (state : r.state = .ready ∨ r.state = .active) (repeating : r.repeating = true) :
    releasedBy n r = { r with late := if r.late < 255 then r.late + 1 else 255, codeAgrees := true } := by
  rw [releasedBy, if_pos bound, ← min_eq_if]
  rcases state with state | state
  · rw [state]
    exact if_pos repeating
  · rw [state]
    exact if_pos repeating

theorem releasedBy_stands (n : TimerId) (r : Slot) (h : r.trigger ≠ some n ∨ r.state.armed = false ∨
    (r.state ≠ .waiting ∧ r.repeating = false)) : releasedBy n r = r := by
  unfold releasedBy
  split
  case isFalse => rfl
  case isTrue bound =>
    have single : r.state.armed = true → r.state ≠ .waiting ∧ ¬ r.repeating = true := fun armed => by
      rcases h with other | unarmed | ⟨waits, single⟩
      · exact absurd bound other
      · rw [armed] at unarmed
        cases unarmed
      · exact ⟨waits, by rw [single]; nofun⟩
    cases state : r.state
    case waiting => exact absurd state (single (by rw [state]; rfl)).1
    case ready | active => exact if_neg (single (by rw [state]; rfl)).2
    all_goals rfl

end Sys2Proof.Machine

open Sys2Proof Sys2Proof.Machine Sys2Proof.Safety

/-- Settles O47: the chain from its unrolling, and the fields of one underflow each by its lemma. -/
theorem underflowsAreHandedOutWithTheirChain : Obligations.UnderflowsAreHandedOutWithTheirChain := by
  refine ⟨fun s n => ⟨fun due => ?_, fun rests => ?_⟩, fun s n => ⟨fun m next cascade enabled => ⟨?_, ?_⟩, ?_⟩,
    fun s n => ?_⟩
  · exact congrArg Host.Outcome.next (if_pos due)
  · exact congrArg Host.Outcome.next (if_neg (by rw [rests]; nofun))
  · intro counting
    rw [takeUnderflow_above s n m next, if_pos ⟨cascade, enabled⟩, if_pos counting]
    rfl
  · intro ending
    rw [takeUnderflow_above s n m next, if_pos ⟨cascade, enabled⟩, if_neg (by omega)]
  · intro ends
    by_cases last : n.val + 1 < 8
    · rw [takeUnderflow_above s n ⟨n.val + 1, last⟩ rfl, if_neg (ends _ rfl)]
    · rw [takeUnderflow_eq, dif_neg last]
  · intro r t bound released bit wakes
    refine ⟨?_, fun i => ⟨fun bound state => ?_, fun bound state repeating => ?_, fun stands => ?_⟩, ?_,
      handOut_soft_none s n, fun l level => ⟨handOut_soft_open s n l level, handOut_soft_shut s n l level⟩,
      fun woken => ?_, fun sleeps => ?_, handOut_only s n⟩
    · rw [handOut_timers, atUnderflow_eq]
    · rw [handOut_slots, if_neg bound.1, releasedBy_waiting n _ bound.2 state]
    · rw [handOut_slots, if_neg bound.1, releasedBy_late n _ bound.2 state repeating]
    · rw [handOut_slots]
      split
      · rfl
      · refine releasedBy_stands n _ (stands.imp_left fun free triggered => ?_)
        exact free ⟨‹_›, triggered⟩
    · rw [handOut_ready]
      by_cases dormant : s.mode = .dormant
      · have nobody : released = [] := List.filter_eq_nil_iff.2 fun i _ => by
          rw [decide_eq_true_eq]
          exact fun all => all.1.1 dormant
        rw [if_pos dormant, nobody, List.foldl_nil]
      · have same : allSlots.filter (fun i => s.slots[i].joinsBy n) = released :=
          List.filter_congr fun i _ => by
            rw [Slot.joinsBy, ← Bool.decide_and, decide_eq_decide]
            exact ⟨fun all => ⟨⟨dormant, all.1⟩, all.2⟩, fun all => ⟨all.1.2, all.2⟩⟩
        rw [if_neg dormant, same]
        rfl
    · have fields := handOut_wake s n
      rw [if_pos woken] at fields
      exact ⟨fields.1, fields.2.trans (startedFromOff_eq _)⟩
    · have fields := handOut_wake s n
      rw [if_neg sleeps] at fields
      exact fields
end

/-! ## The board: the ready queue, the ACTIVE slot and the armed counts (R3, R4, R78) -/
section
namespace Sys2Proof.Machine
open Sys2Proof.Safety

/-! ### Counting armed slots -/

/-- A record armed for the station. -/
def Slot.armedAt (st : StationId) (r : Slot) : Bool :=
  r.state.armed && decide (r.station = stationAddress st)

theorem armedAt_iff (st : StationId) (r : Slot) :
    r.armedAt st = true ↔ r.state.armed = true ∧ r.station = stationAddress st := by
  rw [Slot.armedAt, Bool.and_eq_true, decide_eq_true_eq]

theorem armedAt_unarmed {r : Slot} (h : r.state.armed = false) (st : StationId) : r.armedAt st = false := by
  rw [Slot.armedAt, h, Bool.false_and]

/-- The number of slots armed for a station. -/
def armedCount (v : Vector Slot 24) (st : StationId) : Nat := allSlots.countP (fun i => v[i].armedAt st)

theorem armedFor_length (s : State) (st : StationId) : (armedFor s st).length = armedCount s.slots st :=
  List.countP_eq_length_filter.symm

theorem armedFor_nil_iff (s : State) (st : StationId) :
    armedFor s st = [] ↔ ∀ i : SlotId, s.slots[i].armedAt st = false := by
  rw [armedFor, List.filter_eq_nil_iff]
  exact ⟨fun h i => Bool.eq_false_of_not_eq_true (h i (mem_allSlots i)),
    fun h i _ => ne_true_of_eq_false (h i)⟩

theorem countP_set_notMem (p : Slot → Bool) (v : Vector Slot 24) (i : SlotId) (r : Slot) (l : List SlotId)
    (h : i ∉ l) : l.countP (fun j => p (v.set i r)[j]) = l.countP (fun j => p v[j]) := by
  refine List.countP_congr (fun j hj => ?_)
  rw [slot_set, if_neg]
  rintro rfl
  exact h hj

/-- Writing one record changes a count by that record alone. -/
theorem countP_set (p : Slot → Bool) (v : Vector Slot 24) (i : SlotId) (r : Slot) (l : List SlotId) :
    l.Nodup → i ∈ l → l.countP (fun j => p (v.set i r)[j]) + (p v[i]).toNat =
      l.countP (fun j => p v[j]) + (p r).toNat := by
  induction l with
  | nil => nofun
  | cons a l ih =>
    intro distinct present
    obtain ⟨fresh, distinct⟩ := List.nodup_cons.1 distinct
    rw [List.countP_cons, List.countP_cons]
    by_cases same : a = i
    · subst same
      rw [countP_set_notMem p v a r l fresh, slot_set_same]
      cases p r <;> cases p v[a] <;> simp
    · have rest := ih distinct (List.mem_of_ne_of_mem (Ne.symm same) present)
      rw [slot_set, if_neg (Ne.symm same)]
      omega

theorem armedCount_set (v : Vector Slot 24) (i : SlotId) (r : Slot) (st : StationId) :
    armedCount (v.set i r) st + (v[i].armedAt st).toNat = armedCount v st + (r.armedAt st).toNat :=
  countP_set (Slot.armedAt st) v i r allSlots allSlots_nodup (mem_allSlots i)

theorem armedCount_pos {v : Vector Slot 24} {i : SlotId} {st : StationId} (h : v[i].armedAt st = true) :
    0 < armedCount v st :=
  List.countP_pos_iff.2 ⟨i, mem_allSlots i, h⟩

/-! ### The board -/

/-- The ready queue holds exactly the READY slots, none twice; the ACTIVE slot is the exchange's own; and
the armed counts are right. -/
structure Board (own : Option SlotId) (s : State) : Prop where
  distinct : s.ready.Nodup
  queued : ∀ i : SlotId, i ∈ s.ready ↔ s.slots[i].state = .ready
  active : ∀ i : SlotId, s.slots[i].state = .active ↔ own = some i
  counted : ∀ st : StationId, s.stations[st].armed = armedCount s.slots st

/-- No slot but the one exempt is armed for a VACANT or LOST station (R3). -/
def Free (exempt : Option SlotId) (s : State) : Prop :=
  ∀ st : StationId, (s.stations[st].state = .vacant ∨ s.stations[st].state = .lost) →
    ∀ i : SlotId, s.slots[i].armedAt st = true → exempt = some i

variable {s t : State} {own own' exempt : Option SlotId}

theorem Board.of_eq (h : Board own s) (slots : t.slots = s.slots) (ready : t.ready = s.ready)
    (stations : ∀ st : StationId, t.stations[st].armed = s.stations[st].armed) : Board own t where
  distinct := by rw [ready]; exact h.distinct
  queued := by rw [ready, slots]; exact h.queued
  active := by rw [slots]; exact h.active
  counted st := by rw [stations, slots]; exact h.counted st

theorem Free.of_eq (h : Free exempt s) (slots : t.slots = s.slots)
    (stations : ∀ st : StationId, t.stations[st].state = s.stations[st].state) : Free exempt t := by
  intro st gone i armed
  rw [stations] at gone
  rw [slots] at armed
  exact h st gone i armed

/-- One slot record written, with what that asks of the queue, the exchange's own slot and the counts. -/
theorem Board.change (h : Board own s) (i : SlotId) {r : Slot} (slots : t.slots = s.slots.set i r)
    (distinct : t.ready.Nodup) (here : i ∈ t.ready ↔ r.state = .ready)
    (elsewhere : ∀ j, j ≠ i → (j ∈ t.ready ↔ j ∈ s.ready))
    (active : r.state = .active ↔ own' = some i) (others : ∀ j, j ≠ i → (own' = some j ↔ own = some j))
    (counted : ∀ st : StationId, t.stations[st].armed + (s.slots[i].armedAt st).toNat =
      s.stations[st].armed + (r.armedAt st).toNat) : Board own' t where
  distinct := distinct
  queued j := by
    by_cases same : j = i
    · subst same
      rw [here, slots, slot_set_same]
    · rw [elsewhere j same, h.queued j, slots, slot_set, if_neg (Ne.symm same)]
  active j := by
    by_cases same : j = i
    · subst same
      rw [slots, slot_set_same, active]
    · rw [others j same, ← h.active j, slots, slot_set, if_neg (Ne.symm same)]
  counted st := by
    have before := armedCount_set s.slots i r st
    have count := counted st
    rw [h.counted st] at count
    rw [slots]
    omega

theorem Board.armed_pos (h : Board own s) {i : SlotId} {st : StationId} (armed : s.slots[i].armedAt st = true) :
    0 < s.stations[st].armed := by
  rw [h.counted st]
  exact armedCount_pos armed

/-- An armed slot leaves the armed states, and the queue if it stands there. -/
theorem Board.disarm (h : Board own s) (i : SlotId) {r : Slot} (slots : t.slots = s.slots.set i r)
    (armed : s.slots[i].state.armed = true)
    (unarmed : r.state.armed = false)
    (stations : t.stations = recount s.stations s.slots[i].station (fun n => n - 1))
    (ready : t.ready = s.ready.erase i) (gone : own' ≠ some i)
    (others : ∀ j, j ≠ i → (own' = some j ↔ own = some j)) : Board own' t := by
  have idle : r.state ≠ .ready ∧ r.state ≠ .active := by
    constructor <;> intro state <;> rw [state] at unarmed <;> cases unarmed
  refine h.change i slots ?_ ?_ (fun j other => ?_) ?_ others (fun st => ?_)
  · rw [ready]
    exact h.distinct.erase i
  · rw [ready]
    exact iff_of_false (h.distinct.not_mem_erase) idle.1
  · rw [ready]
    exact List.mem_erase_of_ne other
  · exact iff_of_false idle.2 gone
  · rw [stations, recount_armed, armedAt_unarmed unarmed]
    by_cases addressed : s.slots[i].station = stationAddress st
    · have here : s.slots[i].armedAt st = true := (armedAt_iff st _).2 ⟨armed, addressed⟩
      have some := h.armed_pos here
      rw [if_pos addressed, here]
      simp only [Bool.toNat_true, Bool.toNat_false]
      omega
    · have elsewhere : s.slots[i].armedAt st = false := by
        rw [← Bool.not_eq_true, armedAt_iff]
        exact fun both => addressed both.2
      rw [if_neg addressed, elsewhere]

/-- A slot that is not ACTIVE leaves the armed states. -/
theorem Board.disarm_waiting (h : Board own s) (i : SlotId) {r : Slot} (slots : t.slots = s.slots.set i r)
    (waits : s.slots[i].state.waits = true)
    (unarmed : r.state.armed = false)
    (stations : t.stations = recount s.stations s.slots[i].station (fun n => n - 1))
    (ready : t.ready = s.ready.erase i) : Board own t := by
  have idle : own ≠ some i := fun mine => by rw [(h.active i).2 mine] at waits; cases waits
  have armed : s.slots[i].state.armed = true := by
    rcases (waits_iff _).1 waits with state | state <;> rw [state] <;> rfl
  exact h.disarm i slots armed unarmed stations ready idle (fun _ _ => Iff.rfl)

/-- A record written in place: the same state and the same station. -/
theorem Board.keep (h : Board own s) (i : SlotId) {r : Slot} (slots : t.slots = s.slots.set i r)
    (state : r.state = s.slots[i].state)
    (station : r.station = s.slots[i].station)
    (ready : t.ready = s.ready) (stations : t.stations = s.stations) : Board own t := by
  refine h.change i slots (ready ▸ h.distinct) ?_ (fun j _ => by rw [ready]) ?_ (fun _ _ => Iff.rfl)
    (fun st => ?_)
  · rw [ready, h.queued i, state]
  · rw [state]
    exact h.active i
  · rw [stations, Slot.armedAt, Slot.armedAt, state, station]

/-- An unarmed slot written unarmed, whatever its record. -/
theorem Board.rest (h : Board own s) (i : SlotId) {r : Slot} (slots : t.slots = s.slots.set i r)
    (before : s.slots[i].state.armed = false)
    (unarmed : r.state.armed = false) (ready : t.ready = s.ready)
    (stations : t.stations = s.stations) : Board own t := by
  have idle : ∀ r : Slot, r.state.armed = false → r.state ≠ .ready ∧ r.state ≠ .active := fun r unarmed => by
    constructor <;> intro state <;> rw [state] at unarmed <;> cases unarmed
  refine h.change i slots (ready ▸ h.distinct) ?_ (fun j _ => by rw [ready]) ?_ (fun _ _ => Iff.rfl)
    (fun st => ?_)
  · rw [ready, h.queued i]
    exact iff_of_false (idle _ before).1 (idle _ unarmed).1
  · rw [← h.active i]
    exact iff_of_false (idle _ unarmed).2 (idle _ before).2
  · rw [stations, armedAt_unarmed before, armedAt_unarmed unarmed]

/-- A slot joins the queue at some place: WAITING, or ACTIVE and the exchange's own, it becomes READY. -/
theorem Board.join (h : Board own s) (i : SlotId) {r : Slot} (slots : t.slots = s.slots.set i r)
    (armed : s.slots[i].state.armed = true)
    (absent : s.slots[i].state ≠ .ready) (state : r.state = .ready) (station : r.station = s.slots[i].station)
    (ready : t.ready.Perm (i :: s.ready)) (stations : t.stations = s.stations)
    (gone : own' ≠ some i) (others : ∀ j, j ≠ i → (own' = some j ↔ own = some j)) : Board own' t := by
  have fresh : i ∉ s.ready := fun queued => absent ((h.queued i).1 queued)
  refine h.change i slots (ready.nodup_iff.2 (List.nodup_cons.2 ⟨fresh, h.distinct⟩)) ?_ (fun j other => ?_) ?_
    others (fun st => ?_)
  · exact iff_of_true (ready.mem_iff.2 (List.mem_cons_self ..)) state
  · rw [ready.mem_iff, List.mem_cons]
    exact ⟨fun h => h.resolve_left other, .inr⟩
  · rw [state]
    exact iff_of_false nofun gone
  · rw [stations, Slot.armedAt, Slot.armedAt, armed, state, station]
    rfl

/-- What the records of one slot ask of R3. -/
theorem Free.change (h : Free exempt s) (i : SlotId) {r : Slot} {exempt' : Option SlotId}
    (slots : t.slots = s.slots.set i r) (stations : ∀ st : StationId, t.stations[st].state = s.stations[st].state)
    (here : ∀ st : StationId, (s.stations[st].state = .vacant ∨ s.stations[st].state = .lost) →
      r.armedAt st = true → exempt' = some i)
    (others : ∀ j, j ≠ i → exempt = some j → exempt' = some j) : Free exempt' t := by
  intro st gone j armed
  rw [stations] at gone
  rw [slots, slot_set] at armed
  by_cases same : i = j
  · subst same
    rw [if_pos rfl] at armed
    exact here st gone armed
  · rw [if_neg same] at armed
    exact others j (Ne.symm same) (h st gone j armed)

/-- A record written with no more armed life than before keeps R3. -/
theorem Free.keep (h : Free exempt s) (i : SlotId) {r : Slot} (slots : t.slots = s.slots.set i r)
    (stations : ∀ st : StationId, t.stations[st].state = s.stations[st].state)
    (less : r.state.armed = true → s.slots[i].state.armed = true ∧ r.station = s.slots[i].station) :
    Free exempt t := by
  refine h.change i slots stations (fun st gone armed => ?_) (fun _ _ h => h)
  obtain ⟨state, station⟩ := (armedAt_iff st r).1 armed
  obtain ⟨before, same⟩ := less state
  exact h st gone i ((armedAt_iff st _).2 ⟨before, same ▸ station⟩)

/-- The stations of a state whose armed count alone has changed. -/
theorem recounted_states {a : Address} {f : Nat → Nat} (h : t.stations = recount s.stations a f) :
    ∀ st : StationId, t.stations[st].state = s.stations[st].state := fun st => by
  rw [h, recount_state]

/-! ### The slot table's operations -/

/-- The board and R3 together. -/
structure BoardFree (own exempt : Option SlotId) (s : State) : Prop where
  board : Board own s
  free : Free exempt s

/-- A slot that waits leaves the armed states, its record final. -/
theorem BoardFree.disarm_waiting (h : BoardFree own exempt s) (i : SlotId) {r : Slot}
    (slots : t.slots = s.slots.set i r)
    (waits : s.slots[i].state.waits = true) (unarmed : r.state.armed = false)
   
    (stations : t.stations = recount s.stations s.slots[i].station (fun n => n - 1))
    (ready : t.ready = s.ready.erase i) : BoardFree own exempt t where
  board := h.board.disarm_waiting i slots waits unarmed stations ready
  free := h.free.keep i slots (recounted_states stations) (fun armed => by rw [armed] at unarmed; cases unarmed)

theorem BoardFree.keep (h : BoardFree own exempt s) (i : SlotId) {r : Slot} (slots : t.slots = s.slots.set i r)
    (state : r.state = s.slots[i].state)
    (station : r.station = s.slots[i].station)
    (ready : t.ready = s.ready) (stations : t.stations = s.stations) : BoardFree own exempt t where
  board := h.board.keep i slots state station ready stations
  free := h.free.keep i slots (fun st => by rw [stations]) (fun armed => ⟨state ▸ armed, station⟩)

theorem BoardFree.rest (h : BoardFree own exempt s) (i : SlotId) {r : Slot} (slots : t.slots = s.slots.set i r)
    (before : s.slots[i].state.armed = false) (unarmed : r.state.armed = false)
    (ready : t.ready = s.ready) (stations : t.stations = s.stations) :
    BoardFree own exempt t where
  board := h.board.rest i slots before unarmed ready stations
  free := h.free.keep i slots (fun st => by rw [stations]) (fun armed => by rw [armed] at unarmed; cases unarmed)

theorem BoardFree.of_eq (h : BoardFree own exempt s) (slots : t.slots = s.slots) (ready : t.ready = s.ready)
    (stations : t.stations = s.stations) : BoardFree own exempt t where
  board := h.board.of_eq slots ready (fun st => by rw [stations])
  free := h.free.of_eq slots (fun st => by rw [stations])

theorem BoardFree.abortOne (h : BoardFree own exempt s) (i : SlotId) : BoardFree own exempt (s.abortOne i) := by
  by_cases waits : s.slots[i].state.waits = true
  · rw [abortOne_waits s i waits]
    exact h.disarm_waiting i rfl waits rfl rfl rfl
  · by_cases active : s.slots[i].state = .active
    · rw [abortOne_active s i active]
      exact h.keep i rfl rfl rfl rfl rfl
    · have unarmed : s.slots[i].state.armed = false := by
        rw [← Bool.not_eq_true, armed_iff]
        rw [waits_iff] at waits
        tauto
      rw [abortOne_unarmed s i unarmed]
      exact h

/-- A slot started whose station is neither VACANT nor LOST (R11, R12). -/
theorem BoardFree.startSlot (h : BoardFree own exempt s) (i : SlotId)
    (unarmed : s.slots[i].state.armed = false)
    (stands : ∀ st : StationId, s.slots[i].station = stationAddress st →
      s.stations[st].state ≠ .vacant ∧ s.stations[st].state ≠ .lost) :
    BoardFree own exempt (s.startSlot i) := by
  have notReady : s.slots[i].state ≠ .ready := fun state => by rw [state] at unarmed; cases unarmed
  have notActive : s.slots[i].state ≠ .active := fun state => by rw [state] at unarmed; cases unarmed
  have fresh : i ∉ s.ready := fun queued => notReady ((h.board.queued i).1 queued)
  have armed : s.slots[i].started.state.armed = true := by
    unfold Slot.started
    dsimp only
    split <;> rfl
  rw [startSlot_eq]
  constructor
  · refine h.board.change i rfl ?_ ?_ (fun j other => ?_) ?_ (fun _ _ => Iff.rfl) (fun st => ?_)
    · dsimp only
      split
      · exact (bandBack_perm _ _ _).nodup_iff.2 (List.nodup_cons.2 ⟨fresh, h.board.distinct⟩)
      · exact h.board.distinct
    · unfold Slot.started
      dsimp only
      split
      · exact iff_of_true ((bandBack_perm _ _ _).mem_iff.2 (List.mem_cons_self ..)) rfl
      · exact iff_of_false fresh nofun
    · dsimp only
      split
      · rw [(bandBack_perm _ _ _).mem_iff, List.mem_cons]
        exact ⟨fun h => h.resolve_left other, .inr⟩
      · rfl
    · refine iff_of_false ?_ (fun mine => notActive ((h.board.active i).2 mine))
      unfold Slot.started
      dsimp only
      split <;> nofun
    · rw [armedAt_unarmed unarmed, recount_armed, Slot.armedAt, armed]
      show _ = _ + (decide (s.slots[i].station = stationAddress st)).toNat
      by_cases addressed : s.slots[i].station = stationAddress st
      · simp [addressed, -Fin.getElem_fin]
      · simp [addressed, -Fin.getElem_fin]
  · refine h.free.change i rfl (recounted_states rfl) (fun st gone here => ?_) (fun _ _ h => h)
    obtain ⟨-, station⟩ := (armedAt_iff st _).1 here
    exact absurd gone (not_or.2 (stands st station))

/-- The slot taken becomes the exchange's own (R15). -/
theorem BoardFree.activateSlot (h : BoardFree none none s) (i : SlotId) (ready : s.slots[i].state = .ready) :
    BoardFree (some i) none (s.activateSlot i) where
  board := by
    refine h.board.change i rfl (h.board.distinct.erase i)
      (iff_of_false (h.board.distinct.not_mem_erase) nofun) (fun j other => List.mem_erase_of_ne other)
      (iff_of_true rfl rfl) (fun j other => iff_of_false (fun same => other (Option.some.inj same).symm) nofun)
      (fun st => ?_)
    show s.stations[st].armed + _ = s.stations[st].armed + _
    rw [Slot.armedAt, Slot.armedAt, ready]
    rfl
  free := h.free.keep i rfl (fun _ => rfl) (fun _ => ⟨by rw [ready]; rfl, rfl⟩)

/-- One slot takes an underflow (R13). -/
theorem BoardFree.releaseSlot (h : BoardFree own exempt s) (n : TimerId) (i : SlotId) :
    BoardFree own exempt (s.releaseSlot n i) := by
  have slots := releaseSlot_slots s n i
  have ready := releaseSlot_ready s n i
  have stations : (s.releaseSlot n i).stations = s.stations := by
    unfold State.releaseSlot
    dsimp only
    split
    · split
      · rfl
      · split <;> rfl
      · split <;> rfl
      all_goals rfl
    · rfl
  by_cases joins : s.slots[i].joinsBy n = true
  · obtain ⟨bound, state⟩ := Bool.and_eq_true_iff.1 joins
    have bound := of_decide_eq_true bound
    have waiting := of_decide_eq_true state
    rw [releasedBy_waiting n _ bound waiting] at slots
    rw [if_pos joins] at ready
    have idle : own ≠ some i := fun mine => by
      have state := (h.board.active i).2 mine
      rw [waiting] at state
      cases state
    exact {
      board := h.board.join i slots (by rw [waiting]; rfl) (by rw [waiting]; nofun) rfl rfl
        (by rw [ready]; exact bandBack_perm _ _ _) stations idle (fun _ _ => Iff.rfl)
      free := h.free.keep i slots (fun st => by rw [stations]) (fun _ => ⟨by rw [waiting]; rfl, rfl⟩) }
  · have kept : (releasedBy n s.slots[i]).state = s.slots[i].state ∧
        (releasedBy n s.slots[i]).station = s.slots[i].station := by
      unfold releasedBy
      split
      · rename_i bound
        cases state : s.slots[i].state
        case waiting => exact absurd (by rw [Slot.joinsBy, state, bound]; simp) joins
        case ready | active =>
          dsimp only
          split
          · exact ⟨rfl, rfl⟩
          · exact ⟨state, rfl⟩
        all_goals exact ⟨state, rfl⟩
      · exact ⟨rfl, rfl⟩
    rw [if_neg joins] at ready
    exact h.keep i slots kept.1 kept.2 ready stations

theorem BoardFree.releaseSlots (h : BoardFree own exempt s) (n : TimerId) :
    BoardFree own exempt (s.releaseSlots n) := by
  unfold State.releaseSlots
  split
  · exact h
  · exact foldl_keeps _ (fun t i ht => ht.releaseSlot n i) h

/-- Entry to CONFIGURATION disarms every slot that waits (R25). -/
theorem BoardFree.disarmAll (h : BoardFree none none s) : BoardFree none none s.disarmAll := by
  have slots : ∀ i : SlotId, s.disarmAll.slots[i].state.armed = false := fun i => by
    rw [disarmAll_slots]
    split
    · rfl
    · rename_i stays
      have idle : s.slots[i].state ≠ .active := fun active => by cases (h.board.active i).1 active
      rw [← Bool.not_eq_true, armed_iff]
      rw [waits_iff] at stays
      tauto
  have unarmed : ∀ i : SlotId, s.disarmAll.slots[i].state ≠ .ready ∧ s.disarmAll.slots[i].state ≠ .active := by
    intro i
    have rest := slots i
    constructor <;> intro state <;> rw [state] at rest <;> cases rest
  constructor
  · constructor
    · rw [disarmAll_ready]
      exact List.nodup_nil
    · intro i
      rw [disarmAll_ready]
      exact iff_of_false (List.not_mem_nil) (unarmed i).1
    · exact fun i => iff_of_false (unarmed i).2 nofun
    · intro st
      have waiting : (picked (fun r => r.state.waits) s st allSlots).length = armedCount s.slots st := by
        rw [picked, ← List.countP_eq_length_filter]
        refine List.countP_congr (fun i _ => ?_)
        have idle : s.slots[i].state ≠ .active := fun active => by cases (h.board.active i).1 active
        rw [armedAt_iff, armed_iff, Bool.and_eq_true, waits_iff, decide_eq_true_eq]
        tauto
      have nobody : armedCount s.disarmAll.slots st = 0 :=
        List.countP_eq_zero.2 fun i _ => ne_true_of_eq_false (armedAt_unarmed (slots i) st)
      rw [disarmAll_stations, lowered_armed, waiting, h.board.counted st, nobody, Nat.sub_self]
  · intro st _ i armed
    rw [armedAt_unarmed (slots i)] at armed
    cases armed

/-! ### The loss of a station (R24) -/

/-- Slots that wait leave the armed states one after the other; R3 is not asked of them meanwhile. -/
theorem Board.failOne (h : Board own s) (st : StationId) (i : SlotId) : Board own (State.failOne st s i) := by
  unfold State.failOne
  split
  · rename_i waits
    rw [failLost_eq]
    exact h.disarm_waiting i rfl (Bool.and_eq_true_iff.1 waits).1 rfl rfl rfl
  · exact h

theorem Board.failSlotsOf (h : Board own s) (st : StationId) : Board own (s.failSlotsOf st) := by
  rw [failSlotsOf_eq]
  exact foldl_keeps _ (fun t i ht => ht.failOne st i) h

/-- Once the slots of a station have failed, only the exchange's own may be armed for it. -/
theorem failSlotsOf_free (active : ∀ i : SlotId, s.slots[i].state = .active → own = some i) (st : StationId)
    (others : ∀ k, k ≠ st → (s.stations[k].state = .vacant ∨ s.stations[k].state = .lost) →
      ∀ i : SlotId, s.slots[i].armedAt k = true → own = some i) : Free own (s.failSlotsOf st) := by
  intro k gone i armed
  rw [failSlotsOf_stations, lowered_state] at gone
  rw [failSlotsOf_slots] at armed
  split at armed
  · rw [armedAt_unarmed rfl] at armed
    cases armed
  · rename_i stays
    obtain ⟨state, station⟩ := (armedAt_iff k _).1 armed
    by_cases here : k = st
    · subst here
      refine active i ?_
      rw [waitsAt_iff] at stays
      rcases (armed_iff _).1 state with waiting | ready | flying
      · exact absurd ⟨station, .inl waiting⟩ stays
      · exact absurd ⟨station, .inr ready⟩ stays
      · exact flying
    · exact others k here gone i armed

/-! ### The end of a slot's exchange (R16 to R20) -/

/-- Whichever way the exchange's own slot ends it, no slot is ACTIVE then. -/
theorem SlotEnds.board {i : SlotId} (h : Board (some i) s) (ends : SlotEnds s i t) : Board none t := by
  have mine : s.slots[i].state = .active := (h.active i).2 rfl
  have absent : i ∉ s.ready := fun queued => by
    have ready := (h.queued i).1 queued
    rw [mine] at ready
    cases ready
  have others : ∀ j, j ≠ i → ((none : Option SlotId) = some j ↔ some i = some j) := fun j other =>
    iff_of_false nofun (fun same => other (Option.some.inj same).symm)
  cases ends with
  | ended r report final station policy =>
    exact h.disarm i rfl (by rw [mine]; rfl) final rfl (List.erase_of_not_mem absent).symm nofun others
  | repeats p =>
    refine h.change i rfl h.distinct (iff_of_false absent nofun) (fun _ _ => Iff.rfl) (iff_of_false nofun nofun)
      others (fun st => ?_)
    show s.stations[st].armed + _ = s.stations[st].armed + _
    rw [Slot.armedAt, Slot.armedAt, mine]
    rfl
  | retried n =>
    exact h.join i rfl (by rw [mine]; rfl) (by rw [mine]; nofun) rfl rfl (bandFront_perm _ _ _) rfl nofun others

/-- The slot's station still stands, or its run ends. -/
theorem SlotEnds.free {i : SlotId} (h : Free exempt s) (ends : SlotEnds s i t)
    (stands : exempt = none ∨ (exempt = some i ∧ t.slots[i].state.armed = false))
    (mine : s.slots[i].state = .active) : Free none t := by
  have states : ∀ st : StationId, t.stations[st].state = s.stations[st].state := by
    cases ends with
    | ended => exact recounted_states (a := s.slots[i].station) (f := fun n => n - 1) rfl
    | repeats => exact fun _ => rfl
    | retried => exact fun _ => rfl
  have station : t.slots[i].station = s.slots[i].station := by
    cases ends with
    | ended r report final station => rw [runEnded_slots]; exact station
    | repeats => rw [runRepeats_slots]; rfl
    | retried => rw [runRetried_slots]; rfl
  intro st gone j armed
  rw [states] at gone
  obtain ⟨state, at_st⟩ := (armedAt_iff st _).1 armed
  by_cases same : j = i
  · subst same
    rcases stands with nobody | ⟨-, unarmed⟩
    · have here := h st gone j ((armedAt_iff st _).2 ⟨by rw [mine]; rfl, station ▸ at_st⟩)
      exact nobody ▸ here
    · rw [unarmed] at state
      cases state
  · rw [ends.slots_other same] at armed
    have only := h st gone j armed
    rcases stands with nobody | ⟨own, -⟩
    · exact nobody ▸ only
    · exact absurd (Option.some.inj (own.symm.trans only)).symm same

end Sys2Proof.Machine
end

/-! ## The relations of the part apart from its control port -/
section
namespace Sys2Proof.Machine
open Sys2Proof.Safety

/-- The slot of the exchange on the link, if it has one. -/
def State.ownSlot (s : State) : Option SlotId := s.exchange.bind Exchange.slot

theorem ownSlot_iff (s : State) (i : SlotId) :
    s.exchange.any (fun x => decide (x.slot = some i)) = true ↔ s.ownSlot = some i := by
  unfold State.ownSlot
  cases s.exchange <;> simp

/-- The relations that do not read the control port, save that DORMANT holds no second frame; each event
inside the part keeps them. -/
structure Standing (s : State) : Prop where
  halted : HaltedHoldsSecond s
  timers : TimersBounded s
  related : SlotsRelated s
  scored : StationsScored s
  dispatcher : DispatcherLawful s
  link : LinkDriven s
  lines : LinesLawful s
  distinct : s.ready.Nodup
  queued : ∀ i : SlotId, i ∈ s.ready ↔ s.slots[i].state = .ready
  active : ∀ i : SlotId, s.slots[i].state = .active ↔ s.ownSlot = some i
  counted : ∀ st : StationId, s.stations[st].armed = armedCount s.slots st
  free : Free none s
  reports : ReportsBounded s
  modeLaw : ModeLawful s
  filtered : LinesFiltered s
  shaped : ExchangeShaped s
  starting : s.startUp ≠ .done → s.mode = .configuration ∧ s.dispatcher = .stopped ∧
    s.clockSource = .lowSpeed ∧ s.fault.all FaultRecord.retained = true
  held : s.startUp = .inReset ↔ ¬ (s.supply = .good ∧ s.pinResetHeld = false)
  clock : ClockLawful s
  transitions : TransitionsLawful s
  asleep : s.mode = .dormant → s.holding.length ≤ 1 ∧ s.overrun = none

/-- The relations of the control port alone. -/
structure PortStanding (s : State) : Prop where
  room : s.holding.length ≤ 2
  counted : s.overrun.all (fun m => decide (1 ≤ m.count) && decide (m.count ≤ 255)) = true
  quiet : s.reply = none → s.holding = [] ∧ s.overrun = none
  starting : s.startUp ≠ .done → s.reply = none

theorem lawful_iff (s : State) : Lawful s ↔ Standing s ∧ PortStanding s := by
  constructor
  · rintro ⟨halted, timers, related, scored, dispatcher, link, ⟨room, counted, quiet, asleep⟩, lines,
      ⟨distinct, queue⟩, armed, reports, modeLaw, filtered, shaped, ⟨starting, held⟩, clock, transitions⟩
    refine ⟨{
      halted, timers, related, scored, dispatcher, link, lines, reports, modeLaw, filtered, shaped, held, clock,
      transitions, asleep, distinct
      queued := fun i => (queue i).1
      active := fun i => (queue i).2.trans (ownSlot_iff s i)
      counted := fun st => (armed st).1.trans (armedFor_length s st)
      free := fun st gone i here => by
        rw [(armedFor_nil_iff s st).1 ((armed st).2 gone) i] at here
        cases here
      starting := fun begins => ?_ }, room, counted, quiet, fun begins => (starting begins).2.2.2.1⟩
    obtain ⟨mode, stopped, source, -, fault⟩ := starting begins
    exact ⟨mode, stopped, source, fault⟩
  · rintro ⟨h, room, counted, quiet, port⟩
    refine ⟨h.halted, h.timers, h.related, h.scored, h.dispatcher, h.link, ⟨room, counted, quiet, h.asleep⟩,
      h.lines, ⟨h.distinct, fun i => ⟨h.queued i, ?_⟩⟩, fun st => ⟨?_, fun gone => ?_⟩, h.reports,
      h.modeLaw, h.filtered, h.shaped, ⟨fun begins => ?_, h.held⟩, h.clock, h.transitions⟩
    · exact (h.active i).trans (ownSlot_iff s i).symm
    · exact (h.counted st).trans (armedFor_length s st).symm
    · refine (armedFor_nil_iff s st).2 (fun i => ?_)
      cases armed : s.slots[i].armedAt st
      · rfl
      · cases h.free st gone i armed
    · obtain ⟨mode, stopped, source, fault⟩ := h.starting begins
      exact ⟨mode, stopped, source, port begins, fault⟩

namespace Standing

variable {s t : State} (h : Standing s)
include h

theorem records : RecordsLawful s := ⟨h.related, h.scored⟩

theorem board : Board s.ownSlot s := ⟨h.distinct, h.queued, h.active, h.counted⟩

theorem boardFree : BoardFree s.ownSlot none s := ⟨h.board, h.free⟩

/-- With the dispatcher not BUSY there is no exchange. -/
theorem no_exchange (idle : s.dispatcher ≠ .busy) : s.exchange = none := by
  cases present : s.exchange
  · rfl
  · exact absurd (h.dispatcher.1.1 (by rw [present]; rfl)) idle

theorem busy {x : Exchange} (present : s.exchange = some x) : s.dispatcher = .busy :=
  h.dispatcher.1.1 (by rw [present]; rfl)

/-- A BUSY part has started up, and is neither DORMANT nor HALTED. -/
theorem busy_awake (busy : s.dispatcher = .busy) : s.startUp = .done ∧ s.mode ≠ .dormant ∧ s.mode ≠ .halted := by
  refine ⟨?_, fun dormant => ?_, fun halted => ?_⟩
  · by_contra begins
    have stopped := (h.starting begins).2.1
    rw [busy] at stopped
    cases stopped
  · have stopped := (h.modeLaw.2.2 dormant).2
    rw [busy] at stopped
    cases stopped
  · have stopped := h.transitions.2.1 halted
    rw [busy] at stopped
    cases stopped

theorem traffic_started (traffic : s.mode.traffic = true) : s.startUp = .done := by
  by_contra begins
  rw [(h.starting begins).1] at traffic
  cases traffic

end Standing

/-! ### Counting reports (R161) -/

/-- The reports of the exchange class in a queue. -/
def exchangeIn (l : List Report) : Nat := (l.filter (fun r => !r.isSystem)).length

/-- The reports of the system class in a queue. -/
def systemIn (l : List Report) : Nat := (l.filter Report.isSystem).length

theorem exchangeOccupied_eq (s : State) : s.exchangeOccupied = exchangeIn s.reports := rfl

theorem systemOccupied_eq (s : State) : s.systemOccupied = systemIn s.reports := rfl

theorem exchangeIn_append (l : List Report) (r : Report) (h : r.isSystem = false) :
    exchangeIn (l ++ [r]) = exchangeIn l + 1 := by
  simp [exchangeIn, List.filter_append, h]

theorem systemIn_append (l : List Report) (r : Report) (h : r.isSystem = false) :
    systemIn (l ++ [r]) = systemIn l := by
  simp [systemIn, List.filter_append, h]

theorem exchangeIn_mode (l : List Report) (r : Report) (h : r.isSystem = true) :
    exchangeIn (l ++ [r]) = exchangeIn l := by
  simp [exchangeIn, List.filter_append, h]

theorem systemIn_mode (l : List Report) (r : Report) (h : r.isSystem = true) :
    systemIn (l ++ [r]) = systemIn l + 1 := by
  simp [systemIn, List.filter_append, h]

theorem exchangeIn_drop (l : List Report) (n : Nat) : exchangeIn (l.drop n) ≤ exchangeIn l :=
  ((List.drop_sublist n l).filter _).length_le

theorem systemIn_drop (l : List Report) (n : Nat) : systemIn (l.drop n) ≤ systemIn l :=
  ((List.drop_sublist n l).filter _).length_le

/-! ### Reports, soft levels, timers and wake sources -/

namespace Standing
variable {s t : State}

/-- What writes no field that a relation reads. -/
theorem uptime (h : Standing s) (k : Stamp) : Standing { s with uptime := k } := { h with }

/-- A report of the exchange class is queued where there is room. -/
theorem queueReport (h : Standing s) {r : Report} (soft : Vector Origins 3) (awake : s.mode ≠ .dormant)
    (exchange : r.isSystem = false) (room : s.exchangeOccupied + s.reserved ≤ 27) :
    Standing { s with reports := s.reports ++ [r], soft := soft } := { h with
  reports := by
    rw [exchangeOccupied_eq] at room
    have system := h.reports.2
    rw [systemOccupied_eq] at system
    refine ⟨?_, ?_⟩
    · rw [exchangeOccupied_eq, exchangeIn_append _ _ exchange]
      dsimp only
      omega
    · rw [systemOccupied_eq, systemIn_append _ _ exchange]
      exact system
  modeLaw := ⟨h.modeLaw.1, h.modeLaw.2.1, fun dormant => absurd dormant awake⟩
  transitions := by
    obtain ⟨requested, halted, dormant, traffic⟩ := h.transitions
    rw [systemOccupied_eq] at requested traffic
    refine ⟨?_, halted, dormant, ?_⟩
    · rw [systemOccupied_eq, systemIn_append _ _ exchange]
      exact requested
    · rw [systemOccupied_eq, systemIn_append _ _ exchange]
      exact traffic }

theorem writeSoft (h : Standing s) (l : SoftId) (o : Origins) : Standing (s.writeSoft l o) := { h with }

theorem softTest (h : Standing s) (l : SoftId) : Standing (s.softTest l) := by
  unfold State.softTest
  split
  · rename_i admitted
    obtain ⟨-, -, awake, -, room⟩ := (softAdmitted_iff s l).1 admitted
    exact h.queueReport _ awake rfl room
  · exact h

theorem softTests (h : Standing s) : Standing s.softTests := ((h.softTest 2).softTest 1).softTest 0

theorem addOrigin (h : Standing s) (l : SoftId) (o : Origins) : Standing (s.addOrigin l o) :=
  (h.writeSoft l _).softTest l

theorem setTimers (h : Standing s) (v : Vector Timer 8) (bounded : ∀ n : TimerId, TimerBounded n v[n]) :
    Standing { s with timers := v } := { h with timers := bounded }

theorem writeTimer (h : Standing s) (n : TimerId) {r : Timer} (bounded : TimerBounded n r) :
    Standing (s.writeTimer n r) := by
  refine h.setTimers _ (fun m => ?_)
  rw [timer_set]
  split
  · rename_i same
    exact same ▸ bounded
  · exact h.timers m

theorem startedFromOff_stable {c : Crystal} (h : c = .stable) : c.startedFromOff = .stable := by
  rw [h]
  rfl

theorem tellWake (h : Standing s) (w : WakeSource) : Standing (s.tellWake w) := by
  unfold State.tellWake
  split
  · rename_i sleeps
    exact { h with
      modeLaw := ⟨fun _ => sleeps.1, h.modeLaw.2⟩
      clock := ⟨fun crystal => startedFromOff_stable (h.clock.1 crystal), h.clock.2⟩ }
  · exact h

end Standing
end Sys2Proof.Machine
end

/-! ## The line levels and the station entries between exchanges (R76 to R83, R95 to R99, R108) -/
section
namespace Sys2Proof.Machine
open Sys2Proof.Safety

/-! ### One level's record -/

theorem lines_set_same (v : Vector Line 4) (l : LineId) (r : Line) : (v.set l r)[l] = r := by
  rw [line_set, if_pos rfl]

/-- What a change of the filtered line leaves of a record: it moves between QUIET and PENDING alone. -/
theorem takeLine_fields (r : Line) (v : Bool) : (r.takeLine v).serviceList = r.serviceList ∧
    (r.takeLine v).rollAttempt = r.rollAttempt ∧ (r.takeLine v).readFailures = r.readFailures ∧
    (r.takeLine v).filtered = v ∧ (r.takeLine v).pinFilter = r.pinFilter ∧
    (r.takeLine v).loopSet = r.loopSet := by
  unfold Line.takeLine
  split
  · rename_i same
    exact ⟨rfl, rfl, rfl, same, rfl, rfl⟩
  · exact ⟨rfl, rfl, rfl, rfl, rfl, rfl⟩

theorem takeLine_state (r : Line) (v : Bool) :
    ((r.takeLine v).state = .roll ↔ r.state = .roll) ∧ ((r.takeLine v).state = .serving ↔ r.state = .serving) := by
  unfold Line.takeLine
  split
  · exact ⟨Iff.rfl, Iff.rfl⟩
  · cases state : r.state <;> cases v <;> simp

theorem takeLine_lawful {r : Line} (h : LineLawful r) (v : Bool) : LineLawful (r.takeLine v) := by
  obtain ⟨list, roll, fails, -, -, -⟩ := takeLine_fields r v
  obtain ⟨isRoll, isServing⟩ := takeLine_state r v
  unfold LineLawful
  rw [list, roll, fails, isRoll, isServing]
  exact h

/-- A level emptied is QUIET or PENDING. -/
theorem empties_lawful (r : Line) : LineLawful r.empties := by
  have idle : r.empties.state ≠ .serving := by
    unfold Line.empties
    dsimp only
    split <;> nofun
  exact ⟨List.Pairwise.nil, iff_of_false (not_not_intro rfl) idle, nofun, nofun⟩

theorem ascending_erase {l : List StationId} (h : l.Pairwise (fun a b => a < b)) (st : StationId) :
    (l.erase st).Pairwise (fun a b => a < b) := h.sublist List.erase_sublist

theorem lawful_list_nonempty {r : Line} (h : LineLawful r) {st : StationId} (mem : st ∈ r.serviceList) :
    r.state = .serving := h.2.1.1 (List.ne_nil_of_mem mem)

theorem dropStation_lawful {r : Line} (h : LineLawful r) (st : StationId) : LineLawful (r.dropStation st) := by
  unfold Line.dropStation
  split
  · rename_i listed
    have serving := lawful_list_nonempty h listed
    split
    · exact empties_lawful r
    · rename_i more
      refine ⟨ascending_erase h.1 st, iff_of_true more serving, h.2.2.1, fun _ => serving⟩
  · exact h

theorem dropHead_lawful {r : Line} (h : LineLawful r) (serving : r.state = .serving) : LineLawful r.dropHead := by
  unfold Line.dropHead
  split
  · exact empties_lawful r
  · exact ⟨h.1.sublist (List.tail_sublist _), iff_of_true ‹_› serving, h.2.2.1, nofun⟩

/-- The fields of a level's record that the filters and the loop sets fill. -/
structure Line.SameLine (r q : Line) : Prop where
  filtered : q.filtered = r.filtered
  pinFilter : q.pinFilter = r.pinFilter
  loopSet : q.loopSet = r.loopSet

theorem empties_sameLine (r : Line) : r.SameLine r.empties := ⟨rfl, rfl, rfl⟩

theorem dropStation_sameLine (r : Line) (st : StationId) : r.SameLine (r.dropStation st) := by
  unfold Line.dropStation
  split
  · split
    · exact empties_sameLine r
    · exact ⟨rfl, rfl, rfl⟩
  · exact ⟨rfl, rfl, rfl⟩

theorem dropHead_sameLine (r : Line) : r.SameLine r.dropHead := by
  unfold Line.dropHead
  split
  · exact empties_sameLine r
  · exact ⟨rfl, rfl, rfl⟩

theorem dropStation_mem {r : Line} {st k : StationId} (h : k ∈ (r.dropStation st).serviceList) :
    k ∈ r.serviceList := by
  rw [dropStation_list] at h
  exact List.mem_of_mem_erase h

/-- Where a list is in ascending order a station dropped from it is in it no more. -/
theorem dropStation_notMem {r : Line} (h : LineLawful r) (st : StationId) :
    st ∉ (r.dropStation st).serviceList := by
  have distinct : r.serviceList.Nodup := h.1.imp (fun less => Fin.ne_of_lt less)
  rw [dropStation_list]
  exact distinct.not_mem_erase

theorem dropHead_mem {r : Line} {k : StationId} (h : k ∈ r.dropHead.serviceList) : k ∈ r.serviceList := by
  unfold Line.dropHead at h
  split at h
  · cases h
  · exact List.mem_of_mem_tail h

theorem dropStation_roll {r : Line} (h : LineLawful r) (st : StationId) (roll : r.state = .roll) :
    (r.dropStation st).state = .roll := by
  unfold Line.dropStation
  split
  · rename_i listed
    have serving := lawful_list_nonempty h listed
    rw [roll] at serving
    cases serving
  · exact roll

/-! ### All levels -/

/-- The law of R95 and R96 for one record in one mode. -/
def Line.FilteredIn (m : Mode) (r : Line) : Prop :=
  (m = .loopback → (r.filtered = true ↔ r.loopSet ≠ 0)) ∧
    (m ≠ .loopback → m ≠ .halted → r.filtered = r.pinFilter ∧ r.loopSet = 0)

theorem Line.SameLine.filteredIn {r q : Line} (h : r.SameLine q) {m : Mode} (law : r.FilteredIn m) :
    q.FilteredIn m := by
  unfold Line.FilteredIn
  rw [h.filtered, h.pinFilter, h.loopSet]
  exact law

namespace Standing
variable {s t : State}

theorem lineLawful (h : Standing s) (l : LineId) : LineLawful s.lines[l] := (h.lines l).1

theorem lineFiltered (h : Standing s) (l : LineId) : s.lines[l].FilteredIn s.mode := h.filtered l

/-- The levels' records written: each lawful, its list of stations that stand, and a level in ROLL still so. -/
theorem setLines (h : Standing s) (v : Vector Line 4) (lawful : ∀ l : LineId, LineLawful v[l])
    (members : ∀ l : LineId, ∀ st ∈ v[l].serviceList, st ∈ s.lines[l].serviceList)
    (filtered : ∀ l : LineId, v[l].FilteredIn s.mode)
    (roll : s.dispatcher = .busy → ∀ l : LineId, s.lines[l].state = .roll → v[l].state = .roll) :
    Standing { s with lines := v } := { h with
  lines := fun l => ⟨lawful l, fun st listed => (h.lines l).2 st (members l st listed)⟩
  filtered := filtered
  shaped := fun x present => by
    obtain ⟨slot, notSlot, rolls, cause, probe⟩ := h.shaped x present
    refine ⟨slot, notSlot, fun kind => ?_, cause, probe⟩
    obtain ⟨station, command, l, level, state⟩ := rolls kind
    exact ⟨station, command, l, level, roll (h.busy present) l state⟩ }

theorem writeLine (h : Standing s) (l : LineId) {r : Line} (lawful : LineLawful r)
    (members : ∀ st ∈ r.serviceList, st ∈ s.lines[l].serviceList) (filtered : r.FilteredIn s.mode)
    (roll : s.dispatcher = .busy → s.lines[l].state = .roll → r.state = .roll) : Standing (s.writeLine l r) := by
  refine h.setLines _ (fun k => ?_) (fun k => ?_) (fun k => ?_) (fun busy k => ?_)
  all_goals
    rw [line_set]
    split
  · exact lawful
  · exact h.lineLawful k
  · rename_i same
    exact same ▸ members
  · exact fun _ => id
  · exact filtered
  · exact h.lineFiltered k
  · rename_i same
    exact same ▸ roll busy
  · exact id

/-- A record that takes the filtered line its filter or its loop set gives (R95, R96, R99). -/
theorem changeLine (h : Standing s) (l : LineId) {r : Line} (v : Bool) (lawful : LineLawful r)
    (list : r.serviceList = s.lines[l].serviceList) (state : r.state = s.lines[l].state)
    (loop : s.mode = .loopback → (v = true ↔ r.loopSet ≠ 0))
    (pin : s.mode ≠ .loopback → s.mode ≠ .halted → v = r.pinFilter ∧ r.loopSet = 0) :
    Standing ((s.writeLine l r).changeLine l v) := by
  obtain ⟨lists, -, -, filtered, pinFilter, loopSet⟩ := takeLine_fields r v
  have taken : Standing (s.writeLine l (r.takeLine v)) := by
    refine h.writeLine l (takeLine_lawful lawful v) (fun st listed => ?_) ?_ (fun _ roll => ?_)
    · rw [lists, list] at listed
      exact listed
    · unfold Line.FilteredIn
      rw [filtered, pinFilter, loopSet]
      exact ⟨loop, pin⟩
    · exact (takeLine_state r v).1.2 (state.trans roll)
  have written : ((s.writeLine l r).writeLine l ((s.writeLine l r).lines[l].takeLine v)) =
      s.writeLine l (r.takeLine v) := by
    simp only [State.writeLine, lines_set_same, Vector.set_set]
  unfold State.changeLine
  dsimp only
  rw [written]
  split
  · exact taken.tellWake _
  · exact taken

theorem pin (h : Standing s) (l : LineId) (v : Bool) : Standing (s.writeLine l { s.lines[l] with pin := v }) :=
  h.writeLine l (h.lineLawful l) (fun _ => id) (h.lineFiltered l) (fun _ => id)

theorem filterTakes (h : Standing s) (l : LineId) : Standing (s.filterTakes l) := by
  unfold State.filterTakes
  split
  · exact h
  · dsimp only
    split
    · rename_i loop
      refine h.writeLine l (h.lineLawful l) (fun _ => id) ⟨(h.lineFiltered l).1, ?_⟩ (fun _ => id)
      exact fun other => absurd loop other
    · rename_i other
      refine h.changeLine l (r := { s.lines[l] with pinFilter := s.lines[l].pin }) s.lines[l].pin
        (h.lineLawful l) rfl rfl (fun loop => absurd loop other) (fun notLoop runs => ?_)
      exact ⟨rfl, ((h.lineFiltered l).2 notLoop runs).2⟩

theorem retimeFilters (h : Standing s) : Standing s.retimeFilters := by
  unfold State.retimeFilters
  split
  · exact foldl_keeps allLines (fun t l ht => ht.filterTakes l) h
  · exact h

/-! ### Station entries -/

/-- A station entry written: its armed count as it was, and VACANT or LOST only where no slot is armed for it
and no list holds it. -/
theorem writeStation (h : Standing s) (st : StationId) {e : Station} (scored : StationScored e)
    (armed : e.armed = s.stations[st].armed)
    (gone : e.state = .vacant ∨ e.state = .lost →
      s.stations[st].state = .vacant ∨ s.stations[st].state = .lost) :
    Standing (s.writeStation st e) := by
  have records := h.records.writeStation st scored
  have counts : ∀ k : StationId, (s.writeStation st e).stations[k].armed = s.stations[k].armed := fun k => by
    rw [writeStation_stations, station_set]
    split
    · rename_i same
      exact same ▸ armed
    · rfl
  have states : ∀ k : StationId,
      (s.writeStation st e).stations[k].state = .vacant ∨ (s.writeStation st e).stations[k].state = .lost →
      s.stations[k].state = .vacant ∨ s.stations[k].state = .lost := fun k => by
    rw [writeStation_stations, station_set]
    split
    · rename_i same
      exact same ▸ gone
    · exact id
  exact { h with
    scored := records.scored
    lines := fun l => ⟨h.lineLawful l, fun k listed => not_or.1 fun out =>
      (not_or.2 ((h.lines l).2 k listed)) (states k out)⟩
    counted := fun k => (counts k).trans (h.counted k)
    free := fun k out => h.free k (states k out) }

end Standing
end Sys2Proof.Machine
end

/-! ## Changes of mode (R136 to R144) -/
section
namespace Sys2Proof.Machine
open Sys2Proof.Safety

/-! ### The levels at a change of mode -/

theorem onEntry_lawful {r : Line} (h : LineLawful r) (m : Mode) : LineLawful (r.onEntry m) := by
  unfold Line.onEntry Line.enterConfiguration
  split
  · split
    · exact empties_lawful r
    · exact empties_lawful r
    all_goals exact h
  · exact h

theorem onEntry_sameLine (r : Line) (m : Mode) : r.SameLine (r.onEntry m) := by
  unfold Line.onEntry Line.enterConfiguration
  split
  · split
    · exact empties_sameLine r
    · exact empties_sameLine r
    all_goals exact ⟨rfl, rfl, rfl⟩
  · exact ⟨rfl, rfl, rfl⟩

theorem onEntry_mem {r : Line} {m : Mode} {st : StationId} (h : st ∈ (r.onEntry m).serviceList) :
    st ∈ r.serviceList := by
  unfold Line.onEntry Line.enterConfiguration at h
  split at h
  · split at h
    · cases h
    · cases h
    all_goals exact h
  · exact h

theorem onBorder_lawful {r : Line} (h : LineLawful r) (old new : Mode) : LineLawful (r.onBorder old new) := by
  unfold Line.onBorder
  split
  · exact takeLine_lawful (r := { r with loopSet := 0, loopCause := 0 }) h r.pinFilter
  · split
    · exact takeLine_lawful h false
    · exact h

theorem onBorder_mem {r : Line} {old new : Mode} {st : StationId} (h : st ∈ (r.onBorder old new).serviceList) :
    st ∈ r.serviceList := by
  unfold Line.onBorder at h
  split at h
  · unfold Line.leaveLoopback at h
    rw [(takeLine_fields _ _).1] at h
    exact h
  · split at h
    · unfold Line.enterLoopback at h
      rw [(takeLine_fields _ _).1] at h
      exact h
    · exact h

/-- The border of LOOPBACK passes the filtered line from the filters to the loop sets and back (R96). -/
theorem onBorder_filteredIn {r : Line} {old new : Mode} (h : r.FilteredIn old) (running : old ≠ .halted) :
    (r.onBorder old new).FilteredIn new := by
  unfold Line.onBorder
  by_cases out : old = .loopback
  · by_cases stays : new = .loopback
    · rw [if_neg (fun both => both.2 stays), if_neg (fun both => both.1 out), stays]
      exact out ▸ h
    · rw [if_pos ⟨out, stays⟩]
      obtain ⟨-, -, -, filtered, pinFilter, loopSet⟩ :=
        takeLine_fields { r with loopSet := 0, loopCause := 0 } r.pinFilter
      refine ⟨fun loop => absurd loop stays, fun _ _ => ⟨?_, ?_⟩⟩
      · exact filtered.trans pinFilter.symm
      · exact loopSet
  · rw [if_neg (fun both => out both.1)]
    obtain ⟨same, empty⟩ := h.2 out running
    by_cases into : new = .loopback
    · rw [if_pos ⟨out, into⟩]
      obtain ⟨-, -, -, filtered, -, loopSet⟩ := takeLine_fields r false
      refine ⟨fun _ => ?_, fun other => absurd into other⟩
      unfold Line.enterLoopback
      rw [filtered, loopSet, empty]
      exact iff_of_false nofun (not_not_intro rfl)
    · rw [if_neg (fun both => into both.2)]
      exact ⟨fun loop => absurd loop into, fun _ _ => ⟨same, empty⟩⟩

theorem changeMode_lines_kept (s : State) {m : Mode} (c : ModeCause) (other : m ≠ .configuration)
    (border : s.mode = .loopback ↔ m = .loopback) (l : LineId) : (s.changeMode m c).lines[l] = s.lines[l] := by
  rw [changeMode_lines, Line.onEntry, if_neg other, Line.onBorder,
    if_neg (fun both => both.2 (border.1 both.1)), if_neg (fun both => both.1 (border.2 both.2))]

/-! ### The change -/

namespace Standing
variable {s t : State}

/-- With an exchange in flight only a change that leaves the tables and the border of LOOPBACK alone is made
at once (R138); the MODE report finds the room that R141 counts. -/
theorem changeMode (h : Standing s) {m : Mode} (c : ModeCause) (target : m ≠ .dormant ∧ m ≠ .halted)
    (now : s.mode ≠ .dormant ∧ s.mode ≠ .halted) (started : s.startUp = .done) (room : s.systemOccupied ≤ 3)
    (more : m.traffic = true → s.systemOccupied ≤ 2)
    (flight : s.dispatcher = .busy → m ≠ .configuration ∧ m ≠ .loopback ∧ s.mode ≠ .loopback) :
    Standing (s.changeMode m c) := by
  have records := h.records.changeMode m c
  have boardFree : BoardFree s.ownSlot none (s.changeMode m c) := by
    by_cases entry : m = .configuration
    · subst entry
      have idle : s.ownSlot = none := by
        rw [State.ownSlot, h.no_exchange (fun busy => (flight busy).1 rfl)]
        rfl
      obtain ⟨slots, stations, ready⟩ := changeMode_tables_configuration s c
      have told : BoardFree none none (s.modeTold .configuration) :=
        (idle ▸ h.boardFree : BoardFree none none s).of_eq rfl rfl rfl
      rw [idle]
      exact told.disarmAll.of_eq slots (ready.trans (disarmAll_ready _).symm) stations
    · obtain ⟨slots, stations, ready⟩ := changeMode_tables_other s m c entry
      exact h.boardFree.of_eq slots ready stations
  have lineAt := changeMode_lines s m c
  have kept : s.dispatcher = .busy → ∀ l : LineId, (s.changeMode m c).lines[l] = s.lines[l] := fun busy => by
    obtain ⟨notConfiguration, notLoopback, outside⟩ := flight busy
    exact changeMode_lines_kept s c notConfiguration (iff_of_false outside notLoopback)
  have tables : s.dispatcher = .busy → (s.changeMode m c).slots = s.slots := fun busy =>
    (changeMode_tables_other s m c (flight busy).1).1
  have states : ∀ st : StationId, (s.changeMode m c).stations[st].state = s.stations[st].state := fun st => by
    by_cases entry : m = .configuration
    · subst entry
      rw [(changeMode_tables_configuration s c).2.1, disarmAll_stations, lowered_state]
      rfl
    · rw [(changeMode_tables_other s m c entry).2.1]
  have only := changeMode_only s m c
  have mode := changeMode_mode s m c
  have requested := changeMode_requested s m c
  have silence := changeMode_silence s m c
  have dispatcher := changeMode_dispatcher s m c
  have reports := changeMode_reports s m c
  generalize s.changeMode m c = u at *
  have system : systemIn u.reports = systemIn s.reports + 1 := by
    rw [reports]
    exact systemIn_mode _ _ rfl
  have exchange : exchangeIn u.reports = exchangeIn s.reports := by
    rw [reports]
    exact exchangeIn_mode _ _ rfl
  rw [afterMode_eq] at dispatcher
  have busy : u.dispatcher = .busy ↔ s.dispatcher = .busy := by
    rw [dispatcher]
    split
    · rename_i busy
      exact iff_of_true rfl busy
    · rename_i idle
      refine iff_of_false ?_ idle
      split
      · split
        · exact idle
        · split
          · nofun
          · exact idle
      · nofun
  rw [systemOccupied_eq] at room more
  unfold OnlyMode at only
  rw [only]
  exact { h with
    halted := ⟨fun halted => absurd (mode.symm.trans halted) target.2, by rw [requested]; nofun,
      by rw [requested]; nofun⟩
    related := records.related
    scored := records.scored
    dispatcher := by
      obtain ⟨present, reserved, runs, rests⟩ := h.dispatcher
      refine ⟨present.trans busy.symm, ?_, fun traffic => ?_, fun still => ?_⟩
      · dsimp only
        rw [reserved]
        simp only [busy]
      · dsimp only at traffic ⊢
        rw [mode] at traffic
        rw [dispatcher, traffic]
        split
        · nofun
        · split
          · split
            · exact runs ‹_›
            · split
              · nofun
              · assumption
          · rename_i no
            exact absurd rfl no
      · dsimp only at still ⊢
        rw [mode] at still
        rw [dispatcher, still]
        split
        · exact .inl rfl
        · exact .inr rfl
    link := by
      refine ⟨h.link.1, fun driven => ⟨fun loop => ?_, (h.link.2 driven).2⟩⟩
      dsimp only at loop
      rw [mode] at loop
      obtain ⟨outside, sending⟩ := h.link.2 driven
      obtain ⟨x, present, -⟩ := (Option.any_eq_true _ _).1 sending
      exact (flight (h.busy present)).2.1 loop
    lines := fun l => by
      dsimp only
      rw [lineAt]
      refine ⟨onBorder_lawful (onEntry_lawful (h.lineLawful l) m) _ _, fun st listed => ?_⟩
      rw [states]
      exact (h.lines l).2 st (onEntry_mem (onBorder_mem listed))
    distinct := boardFree.board.distinct
    queued := boardFree.board.queued
    active := boardFree.board.active
    counted := boardFree.board.counted
    free := boardFree.free
    reports := by
      obtain ⟨first, -⟩ := h.reports
      refine ⟨?_, ?_⟩
      · rw [exchangeOccupied_eq, exchange]
        exact first
      · rw [systemOccupied_eq, system]
        omega
    modeLaw := by
      refine ⟨fun woken => absurd (h.modeLaw.1 woken) now.1, fun counting => ?_,
        fun dormant => absurd (mode.symm.trans dormant) target.1⟩
      dsimp only at counting ⊢
      rw [silence] at counting
      rw [mode]
      split at counting
      · assumption
      · cases counting
    filtered := fun l => by
      have law := onBorder_filteredIn (new := m) ((onEntry_sameLine s.lines[l] m).filteredIn (h.lineFiltered l)) now.2
      dsimp only
      rw [lineAt, mode]
      exact law
    shaped := fun x present => by
      have flies := h.busy present
      have shape := h.shaped x present
      dsimp only
      rw [tables flies]
      simp only [kept flies]
      exact shape
    starting := fun begins => absurd started begins
    transitions := by
      refine ⟨fun waits => ?_, fun halted => absurd (mode.symm.trans halted) target.2,
        fun dormant => absurd (mode.symm.trans dormant) target.1, fun traffic => ?_⟩
      · rw [show _ = none from requested] at waits
        cases waits
      · rw [systemOccupied_eq, system]
        have two := more (mode ▸ traffic)
        omega
    asleep := fun dormant => absurd (mode.symm.trans dormant) target.1 }

theorem forceHold (h : Standing s) (c : ModeCause) (idle : s.dispatcher ≠ .busy) : Standing (s.forceHold c) := by
  unfold State.forceHold
  split
  · rename_i traffic
    refine h.changeMode c ⟨nofun, nofun⟩ ⟨?_, ?_⟩ (h.traffic_started traffic) (h.transitions.2.2.2 traffic) nofun
      (fun busy => absurd busy idle)
    · rintro dormant
      rw [dormant] at traffic
      cases traffic
    · rintro halted
      rw [halted] at traffic
      cases traffic
  · exact h

theorem silenceExpires (h : Standing s) : Standing s.silenceExpires := by
  unfold State.silenceExpires
  split
  · rename_i expired
    have run := expired.1
    have traffic : s.mode.traffic = true := by rw [run]; rfl
    exact h.changeMode .hostSilent ⟨nofun, nofun⟩ ⟨by rw [run]; nofun, by rw [run]; nofun⟩
      (h.traffic_started traffic) (h.transitions.2.2.2 traffic) nofun
      (fun _ => ⟨nofun, nofun, by rw [run]; nofun⟩)
  · exact h

end Standing
end Sys2Proof.Machine
end

/-! ## Faults, timers, the link, the clocks and the resets -/
section
namespace Sys2Proof.Machine
open Sys2Proof.Safety

namespace Standing
variable {s t : State}

/-! ### Faults (R164, R165) -/

/-- A fault found while no exchange is in flight, outside DORMANT and start-up. -/
theorem takeFault (h : Standing s) (f : FaultRecord) (idle : s.dispatcher ≠ .busy) (awake : s.mode ≠ .dormant)
    (started : s.startUp = .done) : Standing (s.takeFault f) := by
  have fills : s.fault.all FaultRecord.retained = true → Standing { s with fault := some f } := fun room => by
    have running : s.mode ≠ .halted := fun halted => by
      have second := h.halted.1 halted
      cases filled : s.fault with
      | none => rw [filled] at second; cases second
      | some r =>
        rw [filled] at second room
        simp only [Option.any_some, Option.all_some] at second room
        rw [room] at second
        cases second
    exact { h with
      halted := ⟨fun halted => absurd halted running, h.halted.2⟩
      starting := fun begins => absurd started begins
      transitions := ⟨h.transitions.1, h.transitions.2.1, fun dormant => absurd dormant awake, h.transitions.2.2.2⟩ }
  unfold State.takeFault
  split
  · rename_i empty
    exact fills (by rw [empty]; rfl)
  · rename_i r filled
    split
    · rename_i retained
      exact fills (by rw [filled]; exact retained)
    · rename_i fresh
      split
      · exact h
      · have stopped : s.dispatcher.afterMode s.mode .halted = .stopped := by
          rw [afterMode_eq, if_neg idle]
          rfl
        have reserved := h.dispatcher.2.1
        rw [if_neg idle] at reserved
        unfold State.enterHalted
        rw [stopped]
        exact { h with
          halted := ⟨fun _ => by simpa using fresh, nofun, nofun⟩
          timers := fun n => by
            dsimp only
            rw [mapAll_at]
            exact h.timers n
          dispatcher := by
            refine ⟨?_, reserved, nofun, fun _ => .inr rfl⟩
            dsimp only
            rw [h.no_exchange idle]
            exact iff_of_false nofun nofun
          link := ⟨iff_of_false nofun nofun, nofun⟩
          modeLaw := ⟨fun woken => absurd (h.modeLaw.1 woken) awake, nofun, nofun⟩
          filtered := fun l => ⟨nofun, fun _ runs => absurd rfl runs⟩
          starting := fun begins => absurd started begins
          transitions := ⟨nofun, fun _ => rfl, nofun, nofun⟩
          asleep := nofun }

theorem abandonFlight_idle (h : Standing s) (idle : s.dispatcher ≠ .busy) : s.abandonFlight = s :=
  abandonFlight_none s (h.no_exchange idle)

theorem takeFault_idle (s : State) (f : FaultRecord) (idle : s.dispatcher ≠ .busy) :
    (s.takeFault f).dispatcher ≠ .busy := by
  unfold State.takeFault
  split
  · exact idle
  · split
    · exact idle
    · split
      · exact idle
      · show s.dispatcher.afterMode s.mode .halted ≠ .busy
        rw [afterMode_eq, if_neg idle]
        nofun

theorem takeFaultElsewhere (h : Standing s) (f : FaultRecord) (idle : s.dispatcher ≠ .busy)
    (awake : s.mode ≠ .dormant) (started : s.startUp = .done) : Standing (s.takeFaultElsewhere f) := by
  have taken := h.takeFault f idle awake started
  unfold State.takeFaultElsewhere
  split
  · rw [taken.abandonFlight_idle (takeFault_idle s f idle)]
    exact taken
  · exact taken

/-! ### Timers (R119 to R125) -/

theorem atUnderflow_bounded {n : TimerId} {r : Timer} (h : TimerBounded n r) : TimerBounded n r.atUnderflow := by
  obtain ⟨low, high, count, enabled, tally, cascade⟩ := h
  unfold Timer.atUnderflow
  refine ⟨low, high, ?_, ?_, Nat.min_le_left _ _, cascade⟩
  · dsimp only
    split
    · exact Nat.zero_le _
    · exact Nat.le_refl _
  · cases r.oneShot
    · exact fun _ => low
    · nofun

theorem tick_bounded {n : TimerId} {r : Timer} (h : TimerBounded n r) (src : TimerSource) :
    TimerBounded n (r.tick src) := by
  obtain ⟨low, high, count, enabled, tally, cascade⟩ := h
  unfold Timer.tick
  split
  · split
    · rename_i running
      refine ⟨low, high, ?_, fun _ => ?_, tally, cascade⟩
      · dsimp only
        omega
      · dsimp only
        omega
    · exact ⟨low, high, count, enabled, tally, cascade⟩
  · exact ⟨low, high, count, enabled, tally, cascade⟩

theorem tickBase (h : Standing s) (src : TimerSource) : Standing (s.tickBase src) := by
  refine h.setTimers _ (fun n => ?_)
  rw [mapAll_at]
  exact tick_bounded (h.timers n) src

/-- Slots, stations and queue written by an operation that leaves each ACTIVE slot its station and command. -/
theorem onlySlots (h : Standing s) (only : OnlySlots s t) (boardFree : BoardFree s.ownSlot none t)
    (records : RecordsLawful t) (states : ∀ st : StationId, t.stations[st].state = s.stations[st].state)
    (kept : ∀ i : SlotId, s.slots[i].state = .active →
      t.slots[i].station = s.slots[i].station ∧ t.slots[i].command = s.slots[i].command) : Standing t := by
  unfold OnlySlots at only
  rw [only]
  exact { h with
    related := records.related
    scored := records.scored
    lines := fun l => ⟨h.lineLawful l, fun st listed => by
      dsimp only
      rw [states]
      exact (h.lines l).2 st listed⟩
    distinct := boardFree.board.distinct
    queued := boardFree.board.queued
    active := boardFree.board.active
    counted := boardFree.board.counted
    free := boardFree.free
    shaped := fun x present => by
      obtain ⟨slot, rest⟩ := h.shaped x present
      refine ⟨fun kind => ?_, rest⟩
      obtain ⟨level, i, owner, station, command⟩ := slot kind
      have active : s.slots[i].state = .active := (h.active i).2 (by
        rw [State.ownSlot, present]
        exact owner)
      obtain ⟨sameStation, sameCommand⟩ := kept i active
      exact ⟨level, i, owner, station.trans sameStation.symm, command.trans (by rw [sameCommand])⟩ }

theorem releaseSlots (h : Standing s) (n : TimerId) : Standing (s.releaseSlots n) := by
  have stations : (s.releaseSlots n).stations = s.stations := by
    unfold State.releaseSlots
    split
    · rfl
    · refine (foldl_relates (fun a b => b.stations = a.stations) (fun _ => rfl) (fun _ _ _ p q => q.trans p) _
        (fun t i => ?_) allSlots s)
      unfold State.releaseSlot
      dsimp only
      split
      · split
        · rfl
        · split <;> rfl
        · split <;> rfl
        all_goals rfl
      · rfl
  refine h.onlySlots (releaseSlots_onlySlots s n) (h.boardFree.releaseSlots n) (h.records.releaseSlots n)
    (fun st => by rw [stations]) (fun i active => ?_)
  rw [releaseSlots_slots]
  split
  · exact ⟨rfl, rfl⟩
  · unfold releasedBy
    rw [active]
    split
    · dsimp only
      split <;> exact ⟨rfl, rfl⟩
    · exact ⟨rfl, rfl⟩

theorem handOut (h : Standing s) (n : TimerId) : Standing (s.handOut n) := by
  have released := (h.writeTimer n (atUnderflow_bounded (h.timers n))).releaseSlots n
  have origin : Standing (((s.writeTimer n s.timers[n].atUnderflow).releaseSlots n).addTimerOrigin n) := by
    unfold State.addTimerOrigin
    split
    · exact released
    · exact released.addOrigin _ _
  unfold State.handOut State.timerWakes
  split
  · exact origin.tellWake _
  · exact origin

theorem underflow (fuel : Nat) : ∀ {s : State}, Standing s → ∀ n, Standing (State.underflow fuel s n) := by
  induction fuel with
  | zero => exact fun h _ => h
  | succ fuel ih =>
    intro s h n
    have handed := h.handOut n
    unfold State.underflow
    dsimp only
    split
    · rename_i above
      split
      · split
        · refine handed.writeTimer _ ?_
          obtain ⟨low, high, count, enabled, tally, cascade⟩ := handed.timers ⟨n.val + 1, above⟩
          exact ⟨low, high, (Nat.sub_le _ _).trans count, fun _ => by dsimp only; omega, tally, cascade⟩
        · exact ih handed _
      · exact handed
    · exact handed

theorem silenceTick (h : Standing s) : Standing s.silenceTick := { h with
  modeLaw := by
    refine ⟨h.modeLaw.1, fun counting => h.modeLaw.2.1 ?_, h.modeLaw.2.2⟩
    rw [State.silenceTick, Option.isSome_map] at counting
    exact counting }

/-! ### The link (R37 to R39, R54, R72 to R74) -/

theorem stopLink (h : Standing s) : Standing s.stopLink := { h with
  link := ⟨iff_of_false nofun nofun, nofun⟩ }

/-- The exchange on the link passes to another phase with nothing on LTX. -/
theorem toPhase (h : Standing s) {x : Exchange} (present : s.exchange = some x) (p : Phase)
    (silent : s.lde = false) : Standing (s.toPhase x p) := by
  have own : (s.toPhase x p).ownSlot = s.ownSlot := by
    rw [State.ownSlot, State.ownSlot, present]
    rfl
  exact { h with
    dispatcher := ⟨by
      show (some _).isSome = true ↔ _
      exact iff_of_true rfl (h.busy present), h.dispatcher.2⟩
    link := ⟨h.link.1, fun driven => by
      rw [show s.lde = true from driven] at silent
      cases silent⟩
    active := fun i => by
      rw [own]
      exact h.active i
    shaped := fun y same => by
      cases same
      exact h.shaped x present }

theorem sendFrame (h : Standing s) {x : Exchange} (present : s.exchange = some x) (sending : x.phase = .sending)
    (pair : s.mode ≠ .loopback) (active : Bool) : Standing ({ s with lineActive := active }.sendFrame x) := { h with
  link := ⟨iff_of_true rfl rfl, fun _ => ⟨pair, by
    show s.exchange.any _ = true
    rw [present]
    exact decide_eq_true sending⟩⟩ }

theorem silent_loopback (h : Standing s) (loop : s.mode = .loopback) : s.lde = false := by
  cases driven : s.lde
  · rfl
  · exact absurd loop (h.link.2 driven).1

theorem silent_phase (h : Standing s) {x : Exchange} (present : s.exchange = some x) (sent : x.phase ≠ .sending) :
    s.lde = false := by
  cases driven : s.lde
  · rfl
  · obtain ⟨-, sending⟩ := h.link.2 driven
    rw [present] at sending
    exact absurd (of_decide_eq_true sending) sent

theorem setAnswer (h : Standing s) (a : Option LoopAnswer) : Standing { s with loopAnswer := a } := { h with }

theorem formAnswer (h : Standing s) (x : Exchange) (loop : s.mode = .loopback) : Standing (s.formAnswer x) := by
  unfold State.formAnswer State.loopRoll State.loopCause
  split
  · exact h.setAnswer _
  · rename_i l st _ _ _
    split
    · refine Standing.setAnswer ?_ _
      exact h.changeLine l (r := { s.lines[l] with
          loopSet := s.lines[l].loopSet &&& ~~~((1 : StationSet) <<< st.val) }) _ (h.lineLawful l) rfl rfl
        (fun _ => bne_iff_ne) (fun other => absurd loop other)
    · exact h.setAnswer _
  all_goals exact h.setAnswer _

/-! ### The clocks (R146 to R155) -/

theorem clockReturns (h : Standing s) (started : s.startUp = .done) : Standing s.crystalReturns := by
  have returned : Standing { s with
      clockSource := .crystal, crystal := .stable, monitorRunning := true, intake := .search } := { h with
    starting := fun begins => absurd started begins
    clock := ⟨fun _ => rfl, iff_of_true rfl rfl⟩ }
  exact returned.retimeFilters

/-- The crystal is no longer the clock source, and the port has lost its line. -/
theorem clockStops (h : Standing s) (crystal : Crystal) (requests : List Frame) (overrun : Option Overrun)
    (fewer : requests.length ≤ s.holding.length) (none_more : s.overrun = none → overrun = none) (reply : Option Reply)
    (intake : Intake) : Standing { s with
      intake := intake, holding := requests, overrun := overrun, reply := reply
      clockSource := .lowSpeed, monitorRunning := false, crystal := crystal } := { h with
  starting := fun begins => by
    obtain ⟨mode, stopped, -, fault⟩ := h.starting begins
    exact ⟨mode, stopped, rfl, fault⟩
  clock := ⟨nofun, iff_of_false nofun nofun⟩
  asleep := fun dormant => by
    obtain ⟨held, marker⟩ := h.asleep dormant
    exact ⟨fewer.trans held, none_more marker⟩ }

theorem replyGone (h : Standing s) : Standing { s with reply := none, holding := s.holding.tail } := { h with
  asleep := fun dormant => by
    obtain ⟨held, marker⟩ := h.asleep dormant
    refine ⟨?_, marker⟩
    rw [List.length_tail]
    omega }

/-- DORMANT ends in HOLD, with the fault of a crystal not started where there is one. -/
theorem leaveDormant (h : Standing s) (dormant : s.mode = .dormant) (fault : Option FaultRecord) :
    Standing { s with fault := fault }.leaveDormant := by
  obtain ⟨empty, stopped⟩ := h.modeLaw.2.2 dormant
  have started : s.startUp = .done := by
    by_contra begins
    rw [(h.starting begins).1] at dormant
    cases dormant
  have idle : s.dispatcher ≠ .busy := by rw [stopped]; nofun
  have unasked : s.requested = none := by
    cases asked : s.requested
    · rfl
    · exact absurd (h.transitions.1 (by rw [asked]; rfl)).1 idle
  have reserved := h.dispatcher.2.1
  rw [if_neg idle] at reserved
  have held : Standing { s with
      fault := fault, mode := .hold, wake := none
      reports := s.reports ++ [⟨s.uptime, .mode .dormant .hold .wake s.wake⟩] } := { h with
    halted := ⟨nofun, h.halted.2⟩
    dispatcher := ⟨h.dispatcher.1, h.dispatcher.2.1, nofun, fun _ => .inr stopped⟩
    link := ⟨h.link.1, fun driven => ⟨nofun, (h.link.2 driven).2⟩⟩
    reports := by
      unfold ReportsBounded
      rw [exchangeOccupied_eq, systemOccupied_eq]
      dsimp only
      rw [empty, reserved, exchangeIn_mode _ _ rfl, systemIn_mode _ _ rfl]
      exact ⟨by decide, by decide⟩
    modeLaw := by
      refine ⟨nofun, fun counting => ?_, nofun⟩
      have run := h.modeLaw.2.1 counting
      rw [dormant] at run
      cases run
    filtered := fun l => by
      refine ⟨nofun, fun _ _ => ?_⟩
      exact (h.lineFiltered l).2 (by rw [dormant]; nofun) (by rw [dormant]; nofun)
    starting := fun begins => absurd started begins
    transitions := by
      refine ⟨fun asked => ?_, nofun, nofun, nofun⟩
      dsimp only at asked
      rw [unasked] at asked
      cases asked
    asleep := nofun }
  exact held.softTests

theorem crystalReturns_mode (s : State) : s.crystalReturns.mode = s.mode := by
  have only := retimeFilters_only { s with
    clockSource := .crystal, crystal := .stable, monitorRunning := true, intake := .search }
  unfold OnlyLines at only
  unfold State.crystalReturns
  rw [only]

theorem wakeOnCrystal (h : Standing s) (dormant : s.mode = .dormant) : Standing s.wakeOnCrystal := by
  have started : s.startUp = .done := by
    by_contra begins
    rw [(h.starting begins).1] at dormant
    cases dormant
  exact (h.clockReturns started).leaveDormant ((crystalReturns_mode s).trans dormant) s.crystalReturns.fault

theorem wakeOnLowSpeed (h : Standing s) (dormant : s.mode = .dormant) : Standing s.wakeOnLowSpeed := by
  unfold State.wakeOnLowSpeed
  rw [takeFault_fills s _ (h.transitions.2.2.1 dormant)]
  dsimp only
  rw [if_pos dormant]
  exact h.leaveDormant dormant _

theorem dormantReplyEnds (h : Standing s) (dormant : s.mode = .dormant) : Standing s.dormantReplyEnds := by
  have gone := h.replyGone
  unfold State.dormantReplyEnds
  dsimp only
  split
  · exact gone.clockStops .off s.holding.tail s.overrun (Nat.le_refl _) id none s.intake
  · split
    · exact gone.wakeOnCrystal dormant
    · exact gone

/-! ### Resets and start-up (R156, R158, R168) -/

/-- The part in a reset, or at the start-up that follows it. -/
theorem beginReset (s : State) (c : ResetCause) (supply : Supply) (pinResetHeld : Bool) (startUp : StartUp)
    (crystal : Crystal) (rate : PortRate)
    (held : startUp = .inReset ↔ ¬ (supply = .good ∧ pinResetHeld = false)) : Standing { s.beginReset c with
      supply := supply, pinResetHeld := pinResetHeld, startUp := startUp, crystal := crystal
      portRate := rate } := by
  have base := ((lawful_iff State.reset).1 reset_lawful).1
  have lines : ∀ l : LineId, (s.beginReset c).lines[l] = { Line.reset with pin := s.lines[l].pin } := fun l =>
    mapAll_at _ _ l
  exact { base with
    halted := ⟨nofun, base.halted.2⟩
    lines := fun l => by
      dsimp only
      rw [lines]
      exact ⟨⟨List.Pairwise.nil, iff_of_false (not_not_intro rfl) nofun, nofun, nofun⟩, nofun⟩
    filtered := fun l => by
      dsimp only
      rw [lines]
      exact ⟨nofun, fun _ _ => ⟨rfl, rfl⟩⟩
    shaped := nofun
    starting := fun _ => by
      refine ⟨rfl, rfl, rfl, ?_⟩
      show (faultAtReset c s.fault).all FaultRecord.retained = true
      cases c
      · rfl
      all_goals cases s.fault <;> rfl
    held := held
    clock := ⟨nofun, iff_of_false nofun nofun⟩
    transitions := ⟨nofun, nofun, nofun, nofun⟩ }

/-- A reset's last condition ends, or not yet. -/
theorem endReset (h : Standing s) (supply : Supply) (resetPin pinResetHeld : Bool) (during : s.startUp = .inReset) :
    Standing { s with supply := supply, resetPin := resetPin, pinResetHeld := pinResetHeld }.endReset := by
  have facts := h.starting (by rw [during]; nofun)
  unfold State.endReset
  split
  · rename_i ends
    exact { h with
      starting := fun _ => facts
      held := iff_of_false nofun (not_not_intro ends.2)
      clock := by
        refine ⟨fun crystal => ?_, h.clock.2⟩
        have source : s.clockSource = .crystal := crystal
        rw [facts.2.2.1] at source
        cases source }
  · rename_i stays
    exact { h with
      starting := fun _ => facts
      held := iff_of_true during (fun ends => stays ⟨during, ends⟩) }

theorem commandReset (s : State) : Standing s.commandReset := by
  unfold State.commandReset State.endReset
  split
  · rename_i ends
    exact beginReset s .command s.supply s.pinResetHeld .waiting .starting
      (strapRate s.rate1Pin s.rate0Pin) (iff_of_false nofun (not_not_intro ends.2))
  · rename_i stays
    exact beginReset s .command s.supply s.pinResetHeld .inReset .off s.portRate
      (iff_of_true rfl (fun ends => stays ⟨rfl, ends⟩))

theorem startUpDone (h : Standing s) (waiting : s.startUp = .waiting) : Standing { s with startUp := .done } := { h with
  starting := fun begins => absurd rfl begins
  held := iff_of_false nofun (fun held => by
    have reset := h.held.2 held
    rw [waiting] at reset
    cases reset) }

end Standing
end Sys2Proof.Machine
end

/-! ## Requests (chapter 11) -/
section
namespace Sys2Proof.Machine
open Sys2Proof.Safety

namespace Standing
variable {s t : State}

/-! ### Slots -/

theorem writeUnarmed (h : Standing s) (i : SlotId) {r : Slot} (before : s.slots[i].state.armed = false)
    (unarmed : r.state.armed = false) (related : SlotRelated r) : Standing (s.writeSlot i r) := by
  refine h.onlySlots (writeSlot_only s i r) (h.boardFree.rest i rfl before unarmed rfl rfl)
    (h.records.writeSlot i related) (fun _ => rfl) (fun j active => ?_)
  have other : i ≠ j := by
    rintro rfl
    rw [active] at before
    cases before
  rw [writeSlot_slots, slot_set, if_neg other]
  exact ⟨rfl, rfl⟩

theorem abortOne (h : Standing s) (i : SlotId) : Standing (s.abortOne i) := by
  have states : ∀ st : StationId, (s.abortOne i).stations[st].state = s.stations[st].state := fun st => by
    by_cases waits : s.slots[i].state.waits = true
    · rw [abortOne_waits s i waits]
      exact recount_state _ _ _ _
    · by_cases active : s.slots[i].state = .active
      · rw [abortOne_active s i active]
      · rw [abortOne_unarmed]
        rw [← Bool.not_eq_true, armed_iff]
        rw [waits_iff] at waits
        tauto
  refine h.onlySlots (abortOne_only s i) (h.boardFree.abortOne i) (h.records.abortOne i) states (fun j _ => ?_)
  rw [abortOne_slots, slot_set]
  split
  · rename_i same
    rw [← same]
    unfold Slot.abortedBy
    split
    · exact ⟨rfl, rfl⟩
    · split
      · exact ⟨rfl, rfl⟩
      · exact ⟨rfl, rfl⟩
  · exact ⟨rfl, rfl⟩

/-- What a slot that passes R11 may be started from. -/
theorem startRefusal_none (s : State) (i : SlotId) (passes : s.startRefusal i = none) :
    s.slots[i].state.armed = false ∧ ∀ st : StationId, s.slots[i].station = stationAddress st →
      s.stations[st].state ≠ .vacant ∧ s.stations[st].state ≠ .lost := by
  unfold State.startRefusal at passes
  split at passes
  · cases passes
  · split at passes
    · cases passes
    · rename_i unarmed
      refine ⟨Bool.eq_false_of_not_eq_true unarmed, fun st station => ?_⟩
      rw [station, station?_address] at passes
      dsimp only at passes
      split at passes
      · cases passes
      · split at passes
        · cases passes
        · exact ⟨‹_›, ‹_›⟩

theorem startSlot_station_state (s : State) (i : SlotId) (st : StationId) :
    (s.startSlot i).stations[st].state = s.stations[st].state := by
  rw [startSlot_eq]
  exact recount_state _ _ _ _

theorem startSlot_slot (s : State) (i j : SlotId) :
    (s.startSlot i).slots[j] = if i = j then s.slots[i].started else s.slots[j] := by
  rw [startSlot_eq]
  exact slot_set _ _ _ _

/-- A start leaves the other slots as startable as they were. -/
theorem startSlot_startRefusal (s : State) {i j : SlotId} (other : i ≠ j) :
    (s.startSlot i).startRefusal j = s.startRefusal j := by
  unfold State.startRefusal
  rw [startSlot_slot, if_neg other]
  simp only [startSlot_station_state]

theorem startSlot (h : Standing s) (i : SlotId) (passes : s.startRefusal i = none) : Standing (s.startSlot i) := by
  obtain ⟨unarmed, stands⟩ := startRefusal_none s i passes
  refine h.onlySlots (startSlot_only s i) (h.boardFree.startSlot i unarmed stands) (h.records.startSlot i)
    (startSlot_station_state s i) (fun j _ => ?_)
  rw [startSlot_slot]
  split
  · rename_i same
    exact same ▸ ⟨rfl, rfl⟩
  · exact ⟨rfl, rfl⟩

theorem startAll (l : List SlotId) : ∀ {s : State}, Standing s → l.Nodup →
    (∀ i ∈ l, s.startRefusal i = none) → Standing (l.foldl State.startSlot s) := by
  induction l with
  | nil => exact fun h _ _ => h
  | cons a l ih =>
    intro s h distinct passes
    obtain ⟨fresh, distinct⟩ := List.nodup_cons.1 distinct
    refine ih (h.startSlot a (passes a (List.mem_cons_self ..))) distinct (fun i listed => ?_)
    rw [startSlot_startRefusal s (fun same : a = i => fresh (same ▸ listed))]
    exact passes i (List.mem_cons_of_mem _ listed)

theorem serveStart (h : Standing s) (set : SlotSet) : Standing (Machine.serveStart set s).1 := by
  unfold Machine.serveStart
  split
  · exact h
  · rename_i lowest rest chosen
    split
    · split
      · exact h
      · rename_i passes
        refine startAll _ h (chosen ▸ allSlots_nodup.filter _) (fun i listed => ?_)
        have none_refused := List.findSome?_eq_none_iff.1 passes i listed
        exact Option.map_eq_none_iff.1 none_refused
    · exact h

/-! ### Stations -/

/-- A station that is gone has no armed slot. -/
theorem gone_unarmed (h : Standing s) {st : StationId}
    (gone : s.stations[st].state = .vacant ∨ s.stations[st].state = .lost) : s.stations[st].armed = 0 := by
  rw [h.counted st]
  exact List.countP_eq_zero.2 fun i _ armed => nomatch h.free st gone i armed

theorem serveEnroll (h : Standing s) (a : Byte) (mask : Half) : Standing (Machine.serveEnroll a mask s).1 := by
  unfold Machine.serveEnroll
  split
  · exact h
  · split
    · exact h
    · split
      · exact h
      · rename_i st _ _ vacant
        have gone := h.gone_unarmed (.inl (not_not.1 vacant))
        exact h.writeStation st (by simp [StationScored, Station.reset]) gone.symm (by simp)

theorem dropFromLists_line (s : State) (st : StationId) (l : LineId) :
    (s.dropFromLists st).lines[l] = s.lines[l].dropStation st := mapAll_at _ _ l

/-- A station with no armed slot and no exchange becomes VACANT and leaves every list. -/
theorem withdrawn (h : Standing s) (st : StationId) (unarmed : s.stations[st].armed = 0) :
    Standing ((s.writeStation st Station.reset).dropFromLists st) := by
  have entry : ∀ k : StationId, (s.writeStation st Station.reset).stations[k] =
      if st = k then Station.reset else s.stations[k] := fun k => by
    rw [writeStation_stations, station_set]
    rfl
  have nobody : ∀ i : SlotId, s.slots[i].armedAt st = false := fun i => by
    cases armed : s.slots[i].armedAt st
    · rfl
    · have some := armedCount_pos armed
      rw [← h.counted st, unarmed] at some
      cases some
  have lineAt := dropFromLists_line (s.writeStation st Station.reset) st
  have records := h.records.writeStation st (e := Station.reset) (by simp [StationScored, Station.reset])
  exact { h with
    scored := records.scored
    lines := fun l => by
      refine ⟨?_, fun k listed => ?_⟩
      · rw [lineAt]
        exact dropStation_lawful (h.lineLawful l) st
      · rw [lineAt] at listed
        show (s.writeStation st Station.reset).stations[k].state ≠ _ ∧
          (s.writeStation st Station.reset).stations[k].state ≠ _
        rw [entry]
        split
        · rename_i same
          exact absurd (same ▸ listed) (dropStation_notMem (h.lineLawful l) st)
        · exact (h.lines l).2 k (dropStation_mem listed)
    counted := fun k => by
      show (s.writeStation st Station.reset).stations[k].armed = armedCount s.slots k
      rw [entry]
      split
      · rename_i same
        rw [← same, ← h.counted st, unarmed]
        rfl
      · exact h.counted k
    free := fun k gone i armed => by
      by_cases same : st = k
      · have here : s.slots[i].armedAt k = true := armed
        rw [← same, nobody i] at here
        cases here
      · have state : (s.writeStation st Station.reset).stations[k].state = s.stations[k].state := by
          rw [entry, if_neg same]
        exact h.free k (state ▸ gone) i armed
    filtered := fun l => by
      show Line.FilteredIn s.mode ((s.writeStation st Station.reset).dropFromLists st).lines[l]
      rw [lineAt]
      exact (dropStation_sameLine _ st).filteredIn (h.lineFiltered l)
    shaped := fun x present => by
      obtain ⟨slot, notSlot, rolls, rest⟩ := h.shaped x present
      refine ⟨slot, notSlot, fun kind => ?_, rest⟩
      obtain ⟨station, command, l, level, state⟩ := rolls kind
      refine ⟨station, command, l, level, ?_⟩
      rw [lineAt]
      exact dropStation_roll (h.lineLawful l) st state }

theorem serveWithdraw (h : Standing s) (a : Byte) : Standing (Machine.serveWithdraw a s).1 := by
  unfold Machine.serveWithdraw
  split
  · exact h
  · split
    · exact h
    · split
      · exact h
      · split
        · exact h
        · rename_i st _ _ _ unarmed
          exact h.withdrawn st (Nat.eq_zero_of_not_pos unarmed)

theorem serveRestore (h : Standing s) (a : Byte) : Standing (Machine.serveRestore a s).1 := by
  unfold Machine.serveRestore
  split
  · exact h
  · split
    · exact h
    · exact h.writeStation _ (by simp [StationScored]) rfl (by simp)

theorem serveSetCauseMask (h : Standing s) (a : Byte) (mask : Half) :
    Standing (Machine.serveSetCauseMask a mask s).1 := by
  unfold Machine.serveSetCauseMask
  split
  · exact h
  · split
    · exact h
    · exact h.writeStation _ (h.scored _) rfl id

/-! ### Levels, timers and reports -/

theorem serveSetThreshold (h : Standing s) (k : Byte) : Standing (Machine.serveSetThreshold k s).1 := by
  unfold Machine.serveSetThreshold
  split
  · rename_i fits
    have set : Standing { s with threshold := ⟨k.toNat, fits⟩ } := { h with }
    dsimp only [accepted]
    split
    · exact set.softTests
    · exact set
  · exact h

theorem serveUnmask (h : Standing s) (level : Byte) : Standing (Machine.serveUnmask level s).1 := by
  unfold Machine.serveUnmask
  split
  · exact h
  · split
    · rename_i l _ stuck
      obtain ⟨ascending, serving, -, fails⟩ := h.lineLawful l
      have idle : s.lines[l].state ≠ .serving := by rw [stuck]; nofun
      have quiet : (if s.lines[l].filtered = true then LineState.pending else LineState.quiet) ≠ .serving := by
        split <;> nofun
      refine h.writeLine l ⟨ascending, ?_, nofun, fun failed => absurd (fails failed) idle⟩ (fun _ => id)
        (h.lineFiltered l) (fun _ roll => ?_)
      · exact iff_of_false (fun some => idle (serving.1 some)) quiet
      · rw [stuck] at roll
        cases roll
    · exact h

theorem serveRaise (h : Standing s) (level : Byte) : Standing (Machine.serveRaise level s).1 := by
  unfold Machine.serveRaise
  split
  · exact h
  · exact h.addOrigin _ _

theorem serveSetLoopAttention (h : Standing s) (level : Byte) (set : BitVec 32) (cause : Byte) :
    Standing (Machine.serveSetLoopAttention level set cause s).1 := by
  unfold Machine.serveSetLoopAttention
  split
  · rename_i l stations _ _
    split
    · rename_i fits
      split
      · rename_i loop
        exact h.changeLine l (r := { s.lines[l] with loopSet := stations, loopCause := ⟨cause.toNat, fits⟩ }) _
          (h.lineLawful l) rfl rfl (fun _ => bne_iff_ne) (fun other => absurd loop other)
      · exact h
    · exact h
  · exact h

theorem timerProgrammed_bounded {n : TimerId} {src : Byte} {reload : Half} {soft flags : Byte} {r : Timer}
    (h : timerProgrammed n src reload soft flags = some r) : TimerBounded n r := by
  unfold timerProgrammed at h
  split at h
  · cases h
  · split at h
    · split at h
      · cases h
      · split at h
        · cases h
        · rename_i cascade range
          cases h
          refine ⟨?_, ?_, Nat.le_refl _, fun _ => ?_, Nat.zero_le _, fun both => cascade both.symm⟩
          all_goals
            dsimp only
            omega
    · cases h

theorem serveSetTimer (h : Standing s) (timer src : Byte) (reload : Half) (soft flags : Byte) :
    Standing (Machine.serveSetTimer timer src reload soft flags s).1 := by
  unfold Machine.serveSetTimer
  split
  · exact h
  · split
    · exact h
    · rename_i r programs
      have bounded := timerProgrammed_bounded programs
      refine h.writeTimer _ ?_
      unfold State.recordAfterSet
      split
      · exact tick_bounded bounded _
      · exact bounded

theorem serveReadTimers (h : Standing s) (clear : Byte) : Standing (Machine.serveReadTimers clear s).1 := by
  unfold Machine.serveReadTimers
  split
  · exact h
  · split
    · refine h.setTimers _ (fun n => ?_)
      obtain ⟨low, high, count, enabled, -, cascade⟩ := h.timers n
      rw [mapAll_at]
      exact ⟨low, high, count, enabled, Nat.zero_le _, cascade⟩
    · exact h

theorem fetched (h : Standing s) (n k : Nat) :
    Standing { s with reports := s.reports.drop n, freeCount := k } := { h with
  reports := by
    obtain ⟨exchange, system⟩ := h.reports
    exact ⟨(Nat.add_le_add_right (exchangeIn_drop s.reports n) _).trans exchange,
      (systemIn_drop s.reports n).trans system⟩
  modeLaw := ⟨h.modeLaw.1, h.modeLaw.2.1, fun dormant => by
    obtain ⟨empty, stopped⟩ := h.modeLaw.2.2 dormant
    exact ⟨by rw [empty]; exact List.drop_nil, stopped⟩⟩
  transitions := by
    obtain ⟨requested, halted, dormant, traffic⟩ := h.transitions
    exact ⟨fun asked => ⟨(requested asked).1, (systemIn_drop s.reports n).trans (requested asked).2⟩, halted,
      dormant, fun runs => (systemIn_drop s.reports n).trans (traffic runs)⟩ }

theorem serveFetch (h : Standing s) (count : Byte) : Standing (Machine.serveFetch count s).1 := by
  unfold Machine.serveFetch
  split
  · have taken := h.fetched count.toNat (s.freeCount + (s.reports.take count.toNat).length)
    dsimp only
    split
    · exact taken
    · exact taken.softTests
  · exact h

/-! ### Dispatcher, fault record and settings -/

/-- A HELD dispatcher becomes IDLE, or any other stays (R50, R53). -/
theorem unheld (h : Standing s) (step : Bool) : Standing { s with
    stepEnable := step, dispatcher := if s.dispatcher = .held then .idle else s.dispatcher } := by
  by_cases holds : s.dispatcher = .held
  · rw [if_pos holds]
    have idle : s.dispatcher ≠ .busy := by rw [holds]; nofun
    have reserved := h.dispatcher.2.1
    rw [if_neg idle] at reserved
    have traffic : s.mode.traffic = true := by
      by_contra still
      rcases h.dispatcher.2.2.2 (Bool.eq_false_of_not_eq_true still) with other | other
      all_goals
        rw [holds] at other
        cases other
    exact { h with
      dispatcher := by
        refine ⟨?_, reserved, fun _ => nofun, fun still => ?_⟩
        · dsimp only
          rw [h.no_exchange idle]
          exact iff_of_false nofun nofun
        · rw [show _ = _ from traffic] at still
          cases still
      modeLaw := ⟨h.modeLaw.1, h.modeLaw.2.1, fun dormant => by
        have stopped := (h.modeLaw.2.2 dormant).2
        rw [holds] at stopped
        cases stopped⟩
      starting := fun begins => by
        have stopped := (h.starting begins).2.1
        rw [holds] at stopped
        cases stopped
      transitions := by
        refine ⟨fun asked => absurd (h.transitions.1 asked).1 idle, fun halted => ?_, h.transitions.2.2⟩
        have stopped := h.transitions.2.1 halted
        rw [holds] at stopped
        cases stopped }
  · rw [if_neg holds]
    exact { h with }

theorem serveStepAdvance (h : Standing s) : Standing (Machine.serveStepAdvance s).1 := by
  unfold Machine.serveStepAdvance
  split
  · rename_i holds
    have advanced := h.unheld s.stepEnable
    rw [if_pos holds] at advanced
    exact advanced
  · exact h

theorem clearFault (h : Standing s) (running : s.mode ≠ .halted) : Standing { s with fault := none } := { h with
  halted := ⟨fun halted => absurd halted running, h.halted.2⟩
  starting := fun begins => by
    obtain ⟨mode, stopped, source, -⟩ := h.starting begins
    exact ⟨mode, stopped, source, rfl⟩
  transitions := ⟨h.transitions.1, h.transitions.2.1, fun _ => rfl, h.transitions.2.2.2⟩ }

theorem setSilence (h : Standing s) (settings : Settings) (k : Option Nat)
    (run : k.isSome = true → s.silence.isSome = true ∨ s.mode = .run) :
    Standing { s with settings := settings, silence := k } := { h with
  modeLaw := ⟨h.modeLaw.1, fun counting => (run counting).elim h.modeLaw.2.1 id, h.modeLaw.2.2⟩ }

theorem restartSilence (h : Standing s) : Standing s.restartSilence := by
  unfold State.restartSilence
  split
  · rename_i run
    exact h.setSilence s.settings _ (fun _ => .inr run)
  · exact h

theorem serveWriteSettings (h : Standing s) (mask : Byte) (values : List Byte) :
    Standing (Machine.serveWriteSettings mask values s).1 := by
  unfold Machine.serveWriteSettings
  split
  · exact h
  · split
    · exact h
    · rename_i settings _
      split
      · exact h
      · have written := h.setSilence settings
          (if mask.getLsbD 4 ∧ s.mode = Mode.run then settings.silenceStart else s.silence) (fun counting => by
            split at counting
            · rename_i named
              exact .inr named.2
            · exact .inl counting)
        unfold State.settingsWritten
        dsimp only [accepted]
        split
        · exact written.retimeFilters
        · exact written

/-! ### SET MODE (R137, R138, R145, R146) -/

/-- What a target mode that passes R137 has met. -/
theorem modeRefusal_none (s : State) (m : Mode) (passes : s.modeRefusal m = none) :
    m ≠ .halted ∧ m ≠ s.mode ∧ s.requested = none ∧ s.systemOccupied ≤ 2 ∧
      (m = .dormant → s.mode ≠ .loopback ∧ s.dormancyAllowed = true) := by
  unfold State.modeRefusal at passes
  split at passes
  · cases passes
  · rename_i target
    split at passes
    · cases passes
    · rename_i unasked
      split at passes
      · cases passes
      · rename_i room
        split at passes
        · cases passes
        · rename_i loop
          split at passes
          · cases passes
          · rename_i allowed
            refine ⟨fun halted => target (.inl halted), fun same => target (.inr same), ?_, Nat.le_of_not_lt room,
              fun dormant => ⟨fun loopback => loop ⟨loopback, dormant⟩, ?_⟩⟩
            · simpa using unasked
            · simpa [dormant] using allowed

theorem enterDormant (h : Standing s) (started : s.startUp = .done) (running : s.mode ≠ .halted)
    (outside : s.mode ≠ .loopback) (unasked : s.requested = none) (allowed : s.dormancyAllowed = true) :
    Standing s.enterDormant := by
  simp only [State.dormancyAllowed, Bool.and_eq_true, Bool.or_eq_true, decide_eq_true_eq, List.isEmpty_iff] at allowed
  obtain ⟨⟨⟨⟨rests, -⟩, -⟩, empty⟩, retained⟩ := allowed
  have idle : s.dispatcher ≠ .busy := by
    rcases rests with rest | rest <;> rw [rest] <;> nofun
  have reserved := h.dispatcher.2.1
  rw [if_neg idle] at reserved
  have absent := h.no_exchange idle
  exact { h with
    halted := ⟨nofun, h.halted.2⟩
    dispatcher := by
      refine ⟨?_, reserved, nofun, fun _ => .inr rfl⟩
      show s.exchange.isSome = true ↔ _
      rw [absent]
      exact iff_of_false nofun nofun
    link := ⟨iff_of_false nofun nofun, nofun⟩
    modeLaw := ⟨fun _ => rfl, nofun, fun _ => ⟨empty, rfl⟩⟩
    filtered := fun l => ⟨nofun, fun _ _ => (h.lineFiltered l).2 outside running⟩
    starting := fun begins => absurd started begins
    transitions := by
      refine ⟨fun asked => ?_, nofun, fun _ => retained, nofun⟩
      have still : s.requested.isSome = true := asked
      rw [unasked] at still
      cases still
    asleep := fun _ => ⟨List.length_take_le 1 _, rfl⟩ }

theorem askMode (h : Standing s) {m : Mode} (target : m ≠ .halted ∧ m ≠ .dormant) (busy : s.dispatcher = .busy)
    (room : s.systemOccupied ≤ 2) : Standing { s with requested := some m } := { h with
  halted := ⟨h.halted.1, fun same => target.1 (Option.some.inj same), fun same => target.2 (Option.some.inj same)⟩
  transitions := ⟨fun _ => ⟨busy, room⟩, h.transitions.2⟩ }

theorem serveSetMode (h : Standing s) (code : Byte) (started : s.startUp = .done) (awake : s.mode ≠ .dormant)
    (running : s.mode ≠ .halted) : Standing (Machine.serveSetMode code s).1 := by
  unfold Machine.serveSetMode
  split
  · exact h
  · rename_i m _
    split
    · exact h
    · rename_i passes
      obtain ⟨notHalted, moves, unasked, room, sleeps⟩ := modeRefusal_none s m passes
      unfold State.takeMode
      dsimp only [accepted]
      split
      · rename_i dormant
        obtain ⟨outside, allowed⟩ := sleeps dormant
        exact h.enterDormant started running outside unasked allowed
      · rename_i notDormant
        split
        · rename_i waits
          have busy := of_decide_eq_true (Bool.and_eq_true_iff.1 waits).1
          exact h.askMode ⟨notHalted, notDormant⟩ busy room
        · rename_i at_once
          refine h.changeMode .request ⟨notDormant, notHalted⟩ ⟨awake, running⟩ started (room.trans (by decide))
            (fun _ => room) (fun busy => ?_)
          simp only [State.mustWait, State.inFlight, busy, decide_true, Bool.true_and, Bool.or_eq_true,
            decide_eq_true_eq, not_or] at at_once
          exact ⟨at_once.1.1, at_once.1.2, at_once.2⟩

/-! ### Every request -/

theorem programmed_unarmed {st c p r t o : Byte} {payload : List Byte} {rec : Slot}
    (h : programmed st c p r t o payload = some rec) : rec.state.armed = false := by
  unfold programmed at h
  split at h
  · split at h
    · cases h
      rfl
    · cases h
  · cases h

/-- A request taken keeps the relations: in HALTED those of R151 only are taken. -/
theorem serve (h : Standing s) (r : Request) (started : s.startUp = .done) (awake : s.mode ≠ .dormant)
    (taken : s.mode = .halted → Request.takenInHalted r = true) : Standing (serve r s).1 := by
  have running : Request.takenInHalted r = false → s.mode ≠ .halted := fun no halted => by
    rw [taken halted] at no
    cases no
  cases r with
  | loadSlot n st c p rl t o payload =>
    show Standing (serveLoadSlot n st c p rl t o payload s).1
    unfold serveLoadSlot
    split
    · rename_i programs
      split
      · exact h
      · rename_i unarmed
        exact h.writeUnarmed _ (Bool.eq_false_of_not_eq_true unarmed) (programmed_unarmed programs)
          (programmed_related programs)
    · exact h
  | releaseSlot n =>
    show Standing (serveReleaseSlot n s).1
    unfold serveReleaseSlot
    split
    · split
      · exact h
      · rename_i unarmed
        exact h.writeUnarmed _ (Bool.eq_false_of_not_eq_true unarmed) rfl (by simp [SlotRelated, Slot.reset])
    · exact h
  | readSlot n =>
    show Standing (serveReadSlot n s).1
    unfold serveReadSlot
    split <;> exact h
  | start set => exact h.serveStart set
  | abortSlot n =>
    show Standing (serveAbortSlot n s).1
    unfold serveAbortSlot
    split
    · exact h.abortOne _
    · exact h
  | abortAll =>
    dsimp only [Machine.serve, serveAbortAll]
    exact foldl_keeps allSlots (fun t i ht => ht.abortOne i) h
  | stepEnable => exact { h with }
  | stepDisable => exact h.unheld false
  | stepAdvance => exact h.serveStepAdvance
  | enroll a mask => exact h.serveEnroll a mask
  | withdraw a => exact h.serveWithdraw a
  | restore a => exact h.serveRestore a
  | setCauseMask a mask => exact h.serveSetCauseMask a mask
  | readStation a =>
    show Standing (serveReadStation a s).1
    unfold serveReadStation
    split <;> exact h
  | setThreshold k => exact h.serveSetThreshold k
  | unmask level => exact h.serveUnmask level
  | raise level => exact h.serveRaise level
  | setLoopAttention level set cause => exact h.serveSetLoopAttention level set cause
  | readAttention => exact h
  | setTimer n src reload soft flags => exact h.serveSetTimer n src reload soft flags
  | readTimers clear => exact h.serveReadTimers clear
  | setMode target => exact h.serveSetMode target started awake (running rfl)
  | reset => exact h
  | clearCause => exact { h with }
  | fetch count => exact h.serveFetch count
  | readFault => exact h
  | clearFault => exact h.clearFault (running rfl)
  | writeSettings mask values => exact h.serveWriteSettings mask values
  | readSettings => exact h
  | identify => exact h
  | status => exact h

end Standing
end Sys2Proof.Machine
end

/-! ## The loss of a station, and taking a candidate (R24, R30 to R35, R90, R108) -/
section
namespace Sys2Proof.Machine
open Sys2Proof.Safety

variable {s t : State} {own : Option SlotId}

/-! ### Reports of a loss -/

theorem lossReports_exchange (s : State) (st : StationId) (reason : StationReason) (old : Option StationState)
    (own : Option SlotId) (l : List Report) :
    exchangeIn (l ++ s.lossReports st reason old own) ≤ exchangeIn l + 2 ∧
      systemIn (l ++ s.lossReports st reason old own) = systemIn l := by
  unfold State.lossReports
  by_cases unlisted : s.levelsListing st = []
  · rw [if_pos unlisted, exchangeIn_append _ _ rfl, systemIn_append _ _ rfl]
    exact ⟨by omega, rfl⟩
  · rw [if_neg unlisted, List.append_cons, exchangeIn_append _ _ rfl, systemIn_append _ _ rfl,
      exchangeIn_append _ _ rfl, systemIn_append _ _ rfl]
    exact ⟨Nat.le_refl _, rfl⟩

/-! ### The lists and the slots of a station that is lost -/

/-- The levels' records as a loss finds them: lawful, and of stations that stand, but for the one lost. -/
def ListedBut (st : StationId) (s : State) : Prop :=
  ∀ l : LineId, LineLawful s.lines[l] ∧ ∀ k ∈ s.lines[l].serviceList, k ≠ st →
    s.stations[k].state ≠ .vacant ∧ s.stations[k].state ≠ .lost

section
variable (st : StationId) (reason : StationReason) (old : Option StationState) (told : Option SlotId)

theorem loseStation_state (s : State) (k : StationId) :
    (s.loseStation st reason old told).stations[k].state = s.stations[k].state := by
  rw [loseStation_stations, failSlotsOf_stations, lowered_state]

theorem ListedBut.loseStation (h : ListedBut st s) : LinesLawful (s.loseStation st reason old told) := by
  intro l
  obtain ⟨lawful, stand⟩ := h l
  rw [loseStation_lines]
  refine ⟨dropStation_lawful lawful st, fun k listed => ?_⟩
  rw [loseStation_state]
  refine stand k (dropStation_mem listed) ?_
  rintro rfl
  exact dropStation_notMem lawful _ listed

theorem Board.loseStation (h : Board own s) : Board own (s.loseStation st reason old told) :=
  (h.failSlotsOf st).of_eq (loseStation_slots s st reason old told) (loseStation_ready s st reason old told)
    (fun k => by rw [loseStation_stations])

theorem loseStation_free (active : ∀ i : SlotId, s.slots[i].state = .active → own = some i)
    (others : ∀ k, k ≠ st → (s.stations[k].state = .vacant ∨ s.stations[k].state = .lost) →
      ∀ i : SlotId, s.slots[i].armedAt k = true → own = some i) :
    Free own (s.loseStation st reason old told) :=
  (failSlotsOf_free active st others).of_eq (loseStation_slots s st reason old told)
    (fun k => by rw [loseStation_stations])

theorem loseStation_filtered (h : LinesFiltered s) : LinesFiltered (s.loseStation st reason old told) := by
  have only := loseStation_only s st reason old told
  have mode : (s.loseStation st reason old told).mode = s.mode := by
    unfold OnlyTables at only
    rw [only]
  intro l
  have law : s.lines[l].FilteredIn s.mode := h l
  have kept := (dropStation_sameLine s.lines[l] st).filteredIn law
  rw [loseStation_lines, mode]
  exact kept

end

/-! ### Tables written between exchanges -/

namespace Standing

theorem onlyTables (h : Standing s) (only : OnlyTables s t) (idle : s.dispatcher ≠ .busy)
    (awake : s.mode ≠ .dormant) (reserved : t.reserved = 0) (records : RecordsLawful t) (lines : LinesLawful t)
    (boardFree : BoardFree none none t) (filtered : LinesFiltered t) (room : exchangeIn t.reports ≤ 28)
    (system : systemIn t.reports = systemIn s.reports) : Standing t := by
  have absent := h.no_exchange idle
  unfold OnlyTables at only
  have mode : t.mode = s.mode := by rw [only]
  rw [LinesFiltered, mode] at filtered
  rw [only]
  exact { h with
    related := records.related
    scored := records.scored
    dispatcher := by
      refine ⟨h.dispatcher.1, ?_, h.dispatcher.2.2⟩
      dsimp only
      rw [if_neg idle]
      exact reserved
    lines := lines
    distinct := boardFree.board.distinct
    queued := boardFree.board.queued
    active := fun i => by
      rw [show (none : Option SlotId) = s.ownSlot by rw [State.ownSlot, absent]; rfl] at boardFree
      exact boardFree.board.active i
    counted := boardFree.board.counted
    free := boardFree.free
    reports := by
      refine ⟨?_, ?_⟩
      · rw [exchangeOccupied_eq]
        dsimp only
        rw [reserved]
        exact room
      · rw [systemOccupied_eq]
        dsimp only
        rw [system]
        exact h.reports.2
    modeLaw := ⟨h.modeLaw.1, h.modeLaw.2.1, fun dormant => absurd dormant awake⟩
    filtered := filtered
    shaped := fun x present => by
      have here : s.exchange = some x := present
      rw [absent] at here
      cases here
    transitions := by
      obtain ⟨requested, halted, dormant, traffic⟩ := h.transitions
      rw [systemOccupied_eq] at requested traffic
      refine ⟨fun asked => ?_, halted, dormant, fun runs => ?_⟩
      · rw [systemOccupied_eq]
        dsimp only
        rw [system]
        exact requested asked
      · rw [systemOccupied_eq]
        dsimp only
        rw [system]
        exact traffic runs }

end Standing

/-! ### A taking that a check code cancels -/

/-- The part as a taking finds it: no exchange in flight, awake, and with the room that R30 asks. -/
structure Takes (s : State) : Prop where
  idle : s.dispatcher ≠ .busy
  awake : s.mode ≠ .dormant
  started : s.startUp = .done
  room : s.exchangeOccupied ≤ 25

namespace Standing

theorem unreserved (h : Standing s) (idle : s.dispatcher ≠ .busy) : s.reserved = 0 := by
  have reserved := h.dispatcher.2.1
  rw [if_neg idle] at reserved
  exact reserved

theorem takes (h : Standing s) (starts : s.canStart = true) : Takes s := by
  simp only [State.canStart, Bool.and_eq_true, decide_eq_true_eq] at starts
  obtain ⟨⟨⟨traffic, -⟩, dispatcher⟩, room⟩ := starts
  refine ⟨by rw [dispatcher]; nofun, fun dormant => ?_, h.traffic_started traffic, Nat.le_of_add_right_le room⟩
  rw [dormant] at traffic
  cases traffic

theorem idle_board (h : Standing s) (idle : s.dispatcher ≠ .busy) : BoardFree none none s := by
  have none_own : s.ownSlot = none := by
    rw [State.ownSlot, h.no_exchange idle]
    rfl
  exact none_own ▸ h.boardFree

theorem takingFailed (h : Standing s) (room : Takes s) (i : SlotId) (queued : i ∈ s.ready) :
    Standing (s.takingFailed i) := by
  have ready := (h.queued i).1 queued
  have records : RecordsLawful (s.takingFailed i) :=
    (h.records.failSlotCode i).of_eq (by rw [failSlotCode_eq]; rfl) (by rw [failSlotCode_eq]; rfl)
  have states : ∀ st : StationId, (s.takingFailed i).stations[st].state = s.stations[st].state := fun st =>
    recount_state _ _ _ _
  have boardFree : BoardFree none none (s.takingFailed i) :=
    (h.idle_board room.idle).disarm_waiting i rfl (by rw [ready]; rfl) rfl rfl rfl
  have occupied := room.room
  rw [exchangeOccupied_eq] at occupied
  refine h.onlyTables (takingFailed_only s i) room.idle room.awake rfl records
    (fun l => ⟨h.lineLawful l, fun st listed => ?_⟩) boardFree h.filtered ?_ (systemIn_append _ _ rfl)
  · rw [states]
    exact (h.lines l).2 st listed
  · show exchangeIn (s.reports ++ [_]) ≤ 28
    rw [exchangeIn_append _ _ rfl]
    omega

end Standing

/-! What fails of the slot table with a station reads the table and the queue alone. -/

theorem failSlotsOf_slots_congr (st : StationId) (slots : t.slots = s.slots) :
    (t.failSlotsOf st).slots = (s.failSlotsOf st).slots := by
  refine Vector.ext fun k bound => ?_
  have left := failSlotsOf_slots t st ⟨k, bound⟩
  rw [slots, ← failSlotsOf_slots s st ⟨k, bound⟩] at left
  exact left

theorem failSlotsOf_ready_congr (st : StationId) (slots : t.slots = s.slots) (ready : t.ready = s.ready)
    (distinct : s.ready.Nodup) : (t.failSlotsOf st).ready = (s.failSlotsOf st).ready := by
  rw [failSlotsOf_ready s st distinct, failSlotsOf_ready t st (ready ▸ distinct), slots, ready]

/-- A station's entry rewritten whole, with no armed slot counted, before the slots that wait for it fail. -/
def State.entryLost (s : State) (st : StationId) : State :=
  { s with reserved := 3, stations := s.stations.set st Station.lostByCheck }

theorem takingLost_eq (s : State) (st : StationId) : s.takingLost st =
    { (s.entryLost st).loseStation st .check none none with reserved := 0 } := rfl

theorem entryLost_station (s : State) (st k : StationId) :
    (s.entryLost st).stations[k] = if st = k then Station.lostByCheck else s.stations[k] := station_set _ _ _ _

/-- With no slot ACTIVE the counts come right once the slots have failed (R76). -/
theorem entryLost_board (h : Board none s) (st : StationId) : Board none ((s.entryLost st).failSlotsOf st) := by
  have failed := h.failSlotsOf st
  have slots := failSlotsOf_slots_congr (s := s) (t := s.entryLost st) st rfl
  have ready := failSlotsOf_ready_congr (s := s) (t := s.entryLost st) st rfl rfl h.distinct
  refine ⟨by rw [ready]; exact failed.distinct, by rw [ready, slots]; exact failed.queued,
    by rw [slots]; exact failed.active, fun k => ?_⟩
  by_cases here : k = st
  · subst here
    have nobody : armedCount ((s.entryLost k).failSlotsOf k).slots k = 0 := by
      refine List.countP_eq_zero.2 fun i _ armed => ?_
      rw [failSlotsOf_slots] at armed
      split at armed
      · rw [armedAt_unarmed rfl] at armed
        cases armed
      · rename_i stays
        obtain ⟨state, station⟩ := (armedAt_iff k _).1 armed
        rw [waitsAt_iff] at stays
        rcases (armed_iff _).1 state with waiting | ready | active
        · exact stays ⟨station, .inl waiting⟩
        · exact stays ⟨station, .inr ready⟩
        · cases (h.active i).1 active
    rw [nobody, failSlotsOf_stations, lowered_armed, entryLost_station, if_pos rfl]
    exact Nat.zero_sub _
  · rw [failSlotsOf_stations_other _ here, entryLost_station, if_neg (Ne.symm here), slots, ← failed.counted k,
      failSlotsOf_stations_other s here]

namespace Standing

theorem takingLost (h : Standing s) (room : Takes s) (st : StationId) : Standing (s.takingLost st) := by
  have idle := h.idle_board room.idle
  have lost : StationScored Station.lostByCheck := ⟨Nat.zero_le 247, fun _ => rfl⟩
  have entered : RecordsLawful (s.entryLost st) :=
    (h.records.writeStation st (e := Station.lostByCheck) lost).of_eq rfl rfl
  have records := entered.loseStation st .check none none
  have board : Board none ((s.entryLost st).loseStation st .check none none) :=
    (entryLost_board idle.board st).of_eq (loseStation_slots _ _ _ _ _) (loseStation_ready _ _ _ _ _)
      (fun k => congrArg (fun v : Vector Station 31 => v[k].armed) (loseStation_stations _ _ _ _ _))
  have free : Free none ((s.entryLost st).loseStation st .check none none) := by
    refine loseStation_free (s := s.entryLost st) st .check none none (fun i => (idle.board.active i).1)
      (fun k other gone => ?_)
    rw [entryLost_station, if_neg (Ne.symm other)] at gone
    exact idle.free k gone
  have lines : LinesLawful ((s.entryLost st).loseStation st .check none none) := by
    refine ListedBut.loseStation (s := s.entryLost st) st .check none none (fun l => ⟨h.lineLawful l, ?_⟩)
    intro k listed other
    rw [entryLost_station, if_neg (Ne.symm other)]
    exact (h.lines l).2 k listed
  have filtered := loseStation_filtered (s := s.entryLost st) st .check none none h.filtered
  have reports : ((s.entryLost st).loseStation st .check none none).reports =
      s.reports ++ (s.entryLost st).lossReports st .check none none := loseStation_reports _ _ _ _ _
  have only := takingLost_only s st
  have occupied := room.room
  obtain ⟨exchange, system⟩ := lossReports_exchange (s.entryLost st) st .check none none s.reports
  rw [← reports] at exchange system
  rw [exchangeOccupied_eq] at occupied
  rw [takingLost_eq] at only ⊢
  generalize (s.entryLost st).loseStation st .check none none = u at *
  exact h.onlyTables only room.idle room.awake rfl (records.of_eq rfl rfl) lines
    ⟨board.of_eq rfl rfl (fun _ => rfl), free⟩ filtered (by dsimp only; omega) system

/-! ### An upset record (log 5) -/

theorem upset_only (s : State) (x : Exchange) (u : Upset) : OnlySlots s (s.upset x u) := by
  unfold State.upset
  split
  · rfl
  · split <;> rfl
  · split <;> rfl

/-- An upset changes check codes alone. -/
theorem upset_slot (s : State) (x : Exchange) (u : Upset) (i : SlotId) :
    (s.upset x u).slots[i].state = s.slots[i].state ∧ (s.upset x u).slots[i].station = s.slots[i].station ∧
      (s.upset x u).slots[i].command = s.slots[i].command := by
  unfold State.upset
  split
  · exact ⟨rfl, rfl, rfl⟩
  · split
    · exact ⟨rfl, rfl, rfl⟩
    · dsimp only
      rw [slot_set]
      split
      · rename_i same
        subst same
        exact ⟨rfl, rfl, rfl⟩
      · exact ⟨rfl, rfl, rfl⟩
  · split <;> exact ⟨rfl, rfl, rfl⟩

theorem upset_station (s : State) (x : Exchange) (u : Upset) (st : StationId) :
    (s.upset x u).stations[st].state = s.stations[st].state ∧
      (s.upset x u).stations[st].armed = s.stations[st].armed := by
  unfold State.upset
  split
  · exact ⟨rfl, rfl⟩
  · split <;> exact ⟨rfl, rfl⟩
  · split
    · exact ⟨rfl, rfl⟩
    · dsimp only
      rw [station_set]
      split
      · rename_i same
        subst same
        exact ⟨rfl, rfl⟩
      · exact ⟨rfl, rfl⟩

theorem upset_ready (s : State) (x : Exchange) (u : Upset) : (s.upset x u).ready = s.ready := by
  unfold State.upset
  split
  · rfl
  · split <;> rfl
  · split <;> rfl

theorem upset_armedAt (s : State) (x : Exchange) (u : Upset) (st : StationId) (i : SlotId) :
    (s.upset x u).slots[i].armedAt st = s.slots[i].armedAt st := by
  obtain ⟨state, station, -⟩ := upset_slot s x u i
  rw [Slot.armedAt, Slot.armedAt, state, station]

theorem upset (h : Standing s) (x : Exchange) (u : Upset) : Standing (s.upset x u) := by
  refine h.onlySlots (upset_only s x u) ⟨⟨?_, fun i => ?_, fun i => ?_, fun st => ?_⟩, fun st gone i armed => ?_⟩
    (h.records.upset x u) (fun st => (upset_station s x u st).1) (fun i _ => (upset_slot s x u i).2)
  · rw [upset_ready]
    exact h.distinct
  · rw [upset_ready, (upset_slot s x u i).1]
    exact h.queued i
  · rw [(upset_slot s x u i).1]
    exact h.active i
  · rw [(upset_station s x u st).2, h.counted st, armedCount, armedCount]
    exact List.countP_congr (fun i _ => by rw [upset_armedAt])
  · rw [(upset_station s x u st).1] at gone
    rw [upset_armedAt] at armed
    exact h.free st gone i armed

theorem upset_takes (h : Takes s) (x : Exchange) (u : Upset) : Takes (s.upset x u) := by
  have only := upset_only s x u
  unfold OnlySlots at only
  rw [only]
  exact ⟨h.idle, h.awake, h.started, h.room⟩

/-! ### The taking (R33) -/

theorem takingFailed_stands (s : State) (i : SlotId) : (s.takingFailed i).dispatcher = s.dispatcher ∧
    (s.takingFailed i).mode = s.mode ∧ (s.takingFailed i).startUp = s.startUp := ⟨rfl, rfl, rfl⟩

theorem takingLost_stands (s : State) (st : StationId) : (s.takingLost st).dispatcher = s.dispatcher ∧
    (s.takingLost st).mode = s.mode ∧ (s.takingLost st).startUp = s.startUp := by
  have only := takingLost_only s st
  unfold OnlyTables at only
  rw [only]
  exact ⟨rfl, rfl, rfl⟩

/-- The state in which a candidate's check codes are tested. -/
def reservedFor (s : State) (x : Exchange) (u : Upset) : State := { s.upset x u with reserved := 3 }

theorem tested_cases (s : State) (x : Exchange) (u : Upset) (passed : State → State) :
    (∃ i f, x.slot = some i ∧ s.tested x u passed = ((s.upset x u).takingFailed i).takeFaultElsewhere f) ∨
      (∃ st f, s.tested x u passed = ((s.upset x u).takingLost st).takeFaultElsewhere f) ∨
      s.tested x u passed = passed (reservedFor s x u) := by
  have reserves : { s with reserved := 3 }.upset x u = reservedFor s x u := by
    unfold reservedFor State.upset
    cases u
    · rfl
    · dsimp only
      split <;> rfl
    · dsimp only
      split <;> rfl
  unfold State.tested
  dsimp only
  rw [reserves]
  split
  · rename_i i bad
    have owner : x.slot = some i := by
      unfold State.badSlot at bad
      split at bad
      · cases bad
      · rename_i owner
        split at bad
        · cases bad
        · cases bad
          exact owner
    rw [State.cancel, failSlotCode_eq]
    exact .inl ⟨i, _, owner, rfl⟩
  · split
    · rename_i st bad
      have lost : (reservedFor s x u).loseByCheck st =
          ((s.upset x u).entryLost st).loseStation st .check none none := rfl
      rw [State.cancel, lost, ← takingLost_eq]
      exact .inr (.inl ⟨st, _, rfl⟩)
    · exact .inr (.inr rfl)

theorem tested (h : Standing s) (room : Takes s) (x : Exchange) (u : Upset) {passed : State → State}
    (queued : ∀ i, x.slot = some i → i ∈ s.ready) (passes : Standing (passed (reservedFor s x u))) :
    Standing (s.tested x u passed) := by
  have upsets := h.upset x u
  have takes := upset_takes room x u
  rcases tested_cases s x u passed with ⟨i, f, owner, ends⟩ | ⟨st, f, ends⟩ | ends
  · rw [ends]
    obtain ⟨dispatcher, mode, startUp⟩ := takingFailed_stands (s.upset x u) i
    have failed := upsets.takingFailed takes i (by rw [upset_ready]; exact queued i owner)
    exact failed.takeFaultElsewhere f (by rw [dispatcher]; exact takes.idle) (by rw [mode]; exact takes.awake)
      (startUp.trans takes.started)
  · rw [ends]
    obtain ⟨dispatcher, mode, startUp⟩ := takingLost_stands (s.upset x u) st
    have lost := upsets.takingLost takes st
    exact lost.takeFaultElsewhere f (by rw [dispatcher]; exact takes.idle) (by rw [mode]; exact takes.awake)
      (startUp.trans takes.started)
  · rw [ends]
    exact passes

end Standing
end Sys2Proof.Machine
end

/-! ## The start of an exchange (R30 to R35, R54, R101) -/
section
namespace Sys2Proof.Machine
open Sys2Proof.Safety

/-! ### What a candidate says of its kind -/

/-- What a candidate offers: the kinds as the exchange record will tell them, the slot from the ready queue,
the level in PENDING or ROLL. -/
structure Offered (s : State) (x : Exchange) : Prop where
  begins : x.phase = .sending
  slot : x.kind = .slot → x.level = none ∧ ∃ i : SlotId, i ∈ s.ready ∧ x.slot = some i ∧
    x.station = s.slots[i].station ∧ x.command = s.slots[i].command.link
  notSlot : x.kind ≠ .slot → x.slot = none
  roll : x.kind = .roll → x.station = 31 ∧ x.command = .roll ∧
    ∃ l : LineId, x.level = some l ∧ (s.lines[l].state = .pending ∨ s.lines[l].state = .roll)
  cause : x.kind = .cause → x.station ≠ 31 ∧ x.level.isSome ∧ x.command = .cause
  probe : x.kind = .probe → x.station ≠ 31 ∧ x.level = none ∧ x.command = .probe

theorem stationAddress_ne_broadcast (st : StationId) : stationAddress st ≠ 31 := by
  revert st
  decide

theorem slotExchange_offered (s : State) (i : SlotId) (queued : i ∈ s.ready) : Offered s (s.slotExchange i) where
  begins := rfl
  slot _ := ⟨rfl, i, queued, rfl, rfl, rfl⟩
  notSlot other := absurd rfl other
  roll := nofun
  cause := nofun
  probe := nofun

theorem rollExchange_offered (s : State) (l : LineId) (due : s.lines[l].state = .pending ∨ s.lines[l].state = .roll) :
    Offered s (s.rollExchange l) where
  begins := rfl
  slot := nofun
  notSlot _ := rfl
  roll _ := ⟨rfl, rfl, l, rfl, due⟩
  cause := nofun
  probe := nofun

theorem causeExchange_offered (s : State) (l : LineId) (st : StationId) : Offered s (s.causeExchange l st) where
  begins := rfl
  slot := nofun
  notSlot _ := rfl
  roll := nofun
  cause _ := ⟨stationAddress_ne_broadcast st, rfl, rfl⟩
  probe := nofun

theorem probeExchange_offered (s : State) (st : StationId) : Offered s (s.probeExchange st) where
  begins := rfl
  slot := nofun
  notSlot _ := rfl
  roll := nofun
  cause := nofun
  probe _ := ⟨stationAddress_ne_broadcast st, rfl, rfl⟩

theorem levelExchange_offered {s : State} {l : LineId} {x : Exchange} (calling : s.lines[l].state.calling = true)
    (h : s.levelExchange l = some x) : Offered s x := by
  unfold State.levelExchange at h
  split at h
  · obtain ⟨st, -, rfl⟩ := Option.map_eq_some_iff.1 h
    exact causeExchange_offered s l st
  · rename_i notServing
    cases h
    refine rollExchange_offered s l ?_
    cases state : s.lines[l].state
    case pending => exact .inl rfl
    case roll => exact .inr rfl
    case serving => exact absurd state notServing
    all_goals
      rw [state] at calling
      cases calling

theorem candidate_offered {s : State} {x : Exchange} (h : s.candidate = some x) : Offered s x := by
  have fromQueue : ∀ p : SlotId → Bool, (s.ready.find? p).map s.slotExchange = some x → Offered s x := by
    intro p found
    obtain ⟨i, first, rfl⟩ := Option.map_eq_some_iff.1 found
    exact slotExchange_offered s i (List.mem_of_find?_eq_some first)
  unfold State.candidate at h
  rcases Option.or_eq_some_iff.1 h with h | ⟨-, h⟩
  · rcases Option.or_eq_some_iff.1 h with h | ⟨-, h⟩
    · rcases Option.or_eq_some_iff.1 h with h | ⟨-, h⟩
      · exact fromQueue _ h
      · obtain ⟨l, first, level⟩ := Option.bind_eq_some_iff.1 h
        have due := List.find?_some first
        exact levelExchange_offered (Bool.and_eq_true_iff.1 due).2 level
    · unfold State.rankC at h
      split at h
      · obtain ⟨st, -, rfl⟩ := Option.map_eq_some_iff.1 h
        exact probeExchange_offered s st
      · cases h
  · exact fromQueue _ h

theorem Offered.upset {s : State} {x : Exchange} (h : Offered s x) (u : Upset) : Offered (s.upset x u) x := by
  have only := Standing.upset_only s x u
  unfold OnlySlots at only
  have lines : (s.upset x u).lines = s.lines := by rw [only]
  refine ⟨h.begins, fun kind => ?_, h.notSlot, ?_, h.cause, h.probe⟩
  · obtain ⟨level, i, queued, owner, station, command⟩ := h.slot kind
    obtain ⟨-, sameStation, sameCommand⟩ := Standing.upset_slot s x u i
    exact ⟨level, i, by rw [Standing.upset_ready]; exact queued, owner, station.trans sameStation.symm,
      command.trans (by rw [sameCommand])⟩
  · rw [lines]
    exact h.roll

namespace Standing
variable {s t : State}

/-! ### The start -/

/-- An exchange is in flight, with the tables as its owner has marked them. -/
theorem begun (h : Standing s) (starts : s.canStart = true) (x : Exchange) (slots : Vector Slot 24)
    (ready : List SlotId) (lines : Vector Line 4)
    (boardFree : BoardFree x.slot none { s with slots := slots, ready := ready })
    (related : ∀ i : SlotId, SlotRelated slots[i])
    (lawful : LinesLawful { s with lines := lines })
    (filtered : ∀ l : LineId, lines[l].FilteredIn s.mode)
    (shaped : ExchangeShaped { s with slots := slots, lines := lines, exchange := some x }) :
    Standing { s with
      slots := slots, ready := ready, lines := lines, reserved := 3, exchange := some x, dispatcher := .busy } := by
  have room := h.takes starts
  simp only [State.canStart, Bool.and_eq_true, decide_eq_true_eq] at starts
  obtain ⟨⟨⟨traffic, unasked⟩, -⟩, -⟩ := starts
  have running : s.mode ≠ .halted := fun halted => by
    rw [halted] at traffic
    cases traffic
  have silent : s.lde = false := by
    cases driven : s.lde
    · rfl
    · have sending := (h.link.2 driven).2
      rw [h.no_exchange room.idle] at sending
      cases sending
  have occupied := room.room
  exact { h with
    related := related
    dispatcher := ⟨iff_of_true rfl rfl, rfl, fun _ => nofun, fun _ => .inl rfl⟩
    link := ⟨h.link.1, fun driven => by
      rw [show s.lde = true from driven] at silent
      cases silent⟩
    lines := lawful
    distinct := boardFree.board.distinct
    queued := boardFree.board.queued
    active := boardFree.board.active
    counted := boardFree.board.counted
    free := boardFree.free
    reports := ⟨Nat.add_le_add_right occupied 3, h.reports.2⟩
    modeLaw := ⟨h.modeLaw.1, h.modeLaw.2.1, fun dormant => absurd dormant room.awake⟩
    filtered := filtered
    shaped := shaped
    starting := fun begins => absurd room.started begins
    transitions := by
      refine ⟨fun asked => ?_, fun halted => absurd halted running, h.transitions.2.2⟩
      rw [Option.isNone_iff_eq_none] at unasked
      have still : s.requested.isSome = true := asked
      rw [unasked] at still
      cases still }

theorem offered_queued {x : Exchange} (offered : Offered s x) (i : SlotId) (owner : x.slot = some i) :
    i ∈ s.ready := by
  by_cases kind : x.kind = .slot
  · obtain ⟨-, j, queued, same, -⟩ := offered.slot kind
    rw [owner] at same
    cases same
    exact queued
  · rw [offered.notSlot kind] at owner
    cases owner

/-- An exchange that marks nothing: its owner, if it is a level, is in ROLL already. -/
theorem startUnmarked (h : Standing s) (starts : s.canStart = true) {x : Exchange} (offered : Offered s x)
    (notSlot : x.kind ≠ .slot) (rolling : ∀ l, x.kind = .roll → x.level = some l → s.lines[l].state = .roll) :
    Standing { s with reserved := 3, exchange := some x, dispatcher := .busy } := by
  refine h.begun starts x s.slots s.ready s.lines ?_ h.related h.lines h.lineFiltered ?_
  · rw [offered.notSlot notSlot]
    exact h.idle_board (h.takes starts).idle
  · intro y same
    cases same
    refine ⟨fun kind => absurd kind notSlot, offered.notSlot, fun kind => ?_, offered.cause, offered.probe⟩
    obtain ⟨station, command, l, level, -⟩ := offered.roll kind
    exact ⟨station, command, l, level, rolling l kind level⟩

theorem activateSlot_related (h : Standing s) (i j : SlotId) : SlotRelated (s.activateSlot i).slots[j] :=
  ((h.records.leaveQueue i).writeSlot i
    (r := { s.slots[i] with state := .active, attempts := s.slots[i].attempts + 1 }) (h.related i)).related j

theorem activateSlot_slot (s : State) (i : SlotId) : (s.activateSlot i).slots[i] = { s.slots[i] with
    state := .active, attempts := s.slots[i].attempts + 1, codeAgrees := true } := slot_set_same _ _ _

/-- The exchange offered for a slot keeps its shape with that slot marked ACTIVE. -/
theorem startSlotExchange_shaped {x : Exchange} (offered : Offered s x) (kind : x.kind = .slot) {i : SlotId}
    (owner : x.slot = some i) : ExchangeShaped { s with
      slots := (s.activateSlot i).slots, lines := s.lines, exchange := some x } := by
  obtain ⟨level, j, -, same, station, command⟩ := offered.slot kind
  obtain rfl : i = j := Option.some.inj (owner.symm.trans same)
  have taken := activateSlot_slot s i
  generalize (s.activateSlot i).slots = marked at taken ⊢
  intro y present
  cases present
  refine ⟨fun _ => ⟨level, i, owner, ?_, ?_⟩, fun other => absurd kind other, by rw [kind]; nofun,
    by rw [kind]; nofun, by rw [kind]; nofun⟩
  · exact station.trans (congrArg Slot.station taken).symm
  · exact command.trans (congrArg (fun r : Slot => r.command.link) taken).symm

/-- A slot's exchange starts with its slot ACTIVE. -/
theorem startSlotExchange (h : Standing s) (starts : s.canStart = true) {x : Exchange} (offered : Offered s x)
    (kind : x.kind = .slot) {i : SlotId} (owner : x.slot = some i) :
    Standing { (reservedFor s x .none).activateSlot i with exchange := some x, dispatcher := .busy } := by
  have queued := offered_queued offered i owner
  have activated := (h.idle_board (h.takes starts).idle).activateSlot i ((h.queued i).1 queued)
  rw [← owner] at activated
  have marked : (reservedFor s x .none).activateSlot i = { s with
      slots := (s.activateSlot i).slots, ready := (s.activateSlot i).ready, reserved := 3 } := rfl
  rw [marked]
  exact h.begun starts x (s.activateSlot i).slots (s.activateSlot i).ready s.lines activated
    (h.activateSlot_related i) h.lines h.lineFiltered (startSlotExchange_shaped offered kind owner)

/-- A roll call starts with its level, PENDING until now, in ROLL (R101). -/
theorem startRollCall (h : Standing s) (starts : s.canStart = true) {x : Exchange} (offered : Offered s x)
    (kind : x.kind = .roll) {l : LineId} (level : x.level = some l) (pending : s.lines[l].state = .pending) :
    Standing { (reservedFor s x .none).writeLine l
      { s.lines[l] with state := .roll, rollAttempt := false, unionUsed := false } with
        exchange := some x, dispatcher := .busy } := by
  obtain ⟨station, command, -⟩ := offered.roll kind
  have lawful := h.lineLawful l
  have empty : s.lines[l].serviceList = [] := by
    by_contra listed
    have serving := lawful.2.1.1 listed
    rw [pending] at serving
    cases serving
  have noFails : s.lines[l].readFailures ≠ true := fun failed => by
    have serving := lawful.2.2.2 failed
    rw [pending] at serving
    cases serving
  refine h.begun starts x s.slots s.ready (s.lines.set l
    { s.lines[l] with state := .roll, rollAttempt := false, unionUsed := false }) ?_ h.related (fun k => ?_)
    (fun k => ?_) ?_
  · rw [offered.notSlot (by rw [kind]; nofun)]
    exact h.idle_board (h.takes starts).idle
  · dsimp only
    rw [line_set]
    split
    · refine ⟨⟨lawful.1, iff_of_false (not_not_intro empty) nofun, nofun, fun failed => absurd failed noFails⟩,
        fun st listed => ?_⟩
      have nowhere : st ∈ s.lines[l].serviceList := listed
      rw [empty] at nowhere
      cases nowhere
    · exact h.lines k
  · rw [line_set]
    split
    · exact h.lineFiltered l
    · exact h.lineFiltered k
  · intro y same
    cases same
    refine ⟨fun other => ?_, offered.notSlot, fun _ => ⟨station, command, l, level, ?_⟩, offered.cause,
      offered.probe⟩
    · rw [kind] at other
      cases other
    · exact congrArg Line.state (lines_set_same s.lines l _)

/-- The exchange starts with its owner told of it (R34). -/
theorem markStarted (h : Standing s) (starts : s.canStart = true) {x : Exchange} (offered : Offered s x) :
    Standing { reservedFor s x .none |>.markStarted x with exchange := some x, dispatcher := .busy } := by
  cases kind : x.kind with
  | slot =>
    obtain ⟨-, i, -, owner, -⟩ := offered.slot kind
    have marked : (reservedFor s x .none).markStarted x = (reservedFor s x .none).activateSlot i := by
      simp only [State.markStarted, kind, owner]
    rw [marked]
    exact h.startSlotExchange starts offered kind owner
  | roll =>
    obtain ⟨-, -, l, level, due⟩ := offered.roll kind
    by_cases pending : s.lines[l].state = .pending
    · have marked : (reservedFor s x .none).markStarted x = (reservedFor s x .none).writeLine l
          { s.lines[l] with state := .roll, rollAttempt := false, unionUsed := false } := by
        simp only [State.markStarted, kind, level]
        exact if_pos pending
      rw [marked]
      exact h.startRollCall starts offered kind level pending
    · have rolling := due.resolve_left pending
      have marked : (reservedFor s x .none).markStarted x = reservedFor s x .none := by
        simp only [State.markStarted, kind, level]
        exact if_neg pending
      rw [marked]
      refine h.startUnmarked starts offered (by rw [kind]; nofun) (fun k _ same => ?_)
      rw [level] at same
      cases same
      exact rolling
  | cause =>
    have marked : (reservedFor s x .none).markStarted x = reservedFor s x .none := by
      simp only [State.markStarted, kind]
    rw [marked]
    exact h.startUnmarked starts offered (by rw [kind]; nofun) (fun _ rolls => by rw [kind] at rolls; cases rolls)
  | probe =>
    have marked : (reservedFor s x .none).markStarted x = reservedFor s x .none := by
      simp only [State.markStarted, kind]
    rw [marked]
    exact h.startUnmarked starts offered (by rw [kind]; nofun) (fun _ rolls => by rw [kind] at rolls; cases rolls)

theorem startExchange (h : Standing s) (starts : s.canStart = true) {x : Exchange} (offered : Offered s x)
    (active : Bool) : Standing ((reservedFor s x .none).startExchange x active) := by
  have marked := h.markStarted starts offered
  unfold State.startExchange
  generalize (reservedFor s x .none).markStarted x = m at marked ⊢
  unfold State.beginSending
  split
  · exact marked
  · rename_i pair
    dsimp only
    split
    · exact { marked with }
    · exact marked.sendFrame rfl offered.begins pair active

theorem upset_canStart (s : State) (x : Exchange) (u : Upset) : (s.upset x u).canStart = s.canStart := by
  have only := upset_only s x u
  unfold OnlySlots at only
  rw [only]
  rfl

theorem look (h : Standing s) (active : Bool) (u : Upset) : Standing (s.look active u) := by
  unfold State.look
  split
  · rename_i starts
    split
    · exact h
    · rename_i x offers
      have offered := candidate_offered offers
      have upsets := h.upset x u
      refine h.tested (h.takes starts) x u (offered_queued offered) ?_
      exact upsets.startExchange ((upset_canStart s x u).trans starts) (Offered.upset offered u) active
  · exact h

end Standing
end Sys2Proof.Machine
end

/-! ## What the tables take of an exchange's end (R16 to R20, R85 to R89, R102 to R108) -/
section
namespace Sys2Proof.Machine
open Sys2Proof.Safety

variable {s t : State} {own exempt : Option SlotId} {k : Nat}

/-! ### The tables while an end is handed out -/

/-- The tables as a block leaves them: at most `k` reports of the exchange class more than before. -/
structure Tables (own exempt : Option SlotId) (k : Nat) (s t : State) : Prop where
  lines : LinesLawful t
  board : Board own t
  free : Free exempt t
  filtered : ∀ l : LineId, t.lines[l].FilteredIn s.mode
  exchange : exchangeIn t.reports ≤ exchangeIn s.reports + k
  system : systemIn t.reports = systemIn s.reports

namespace Tables

theorem more (h : Tables own exempt k s t) : Tables own exempt (k + 1) s t :=
  { h with exchange := h.exchange.trans (Nat.le_succ _) }

theorem queueReserved (h : Tables own exempt k s t) {b : ReportBody}
    (notSystem : (⟨t.uptime, b⟩ : Report).isSystem = false) : Tables own exempt (k + 1) s (t.queueReserved b) where
  lines := h.lines
  board := h.board.of_eq rfl rfl (fun _ => rfl)
  free := h.free
  filtered := h.filtered
  exchange := (exchangeIn_append _ _ notSystem).trans_le (Nat.succ_le_succ h.exchange)
  system := (systemIn_append _ _ notSystem).trans h.system

theorem writeLine (h : Tables own exempt k s t) (l : LineId) {r : Line} (lawful : LineLawful r)
    (members : ∀ st ∈ r.serviceList, t.stations[st].state ≠ .vacant ∧ t.stations[st].state ≠ .lost)
    (same : t.lines[l].SameLine r) : Tables own exempt k s (t.writeLine l r) where
  lines j := by
    rw [writeLine_lines, line_set]
    split
    · exact ⟨lawful, members⟩
    · exact h.lines j
  board := h.board.of_eq rfl rfl (fun _ => rfl)
  free := h.free
  filtered j := by
    rw [writeLine_lines, line_set]
    split
    · exact same.filteredIn (h.filtered l)
    · exact h.filtered j
  exchange := h.exchange
  system := h.system

/-- A station entry written whose armed count stands, and whose station goes no further than it had. -/
theorem entry (h : Tables own exempt k s t) (st : StationId) {e : Station} (armed : e.armed = t.stations[st].armed)
    (gone : e.state = .vacant ∨ e.state = .lost →
      t.stations[st].state = .vacant ∨ t.stations[st].state = .lost) :
    Tables own exempt k s (t.writeStation st e) := by
  have counts : ∀ j : StationId, (t.writeStation st e).stations[j].armed = t.stations[j].armed := fun j => by
    rw [writeStation_stations, station_set]
    split
    · rename_i here
      exact here ▸ armed
    · rfl
  have states : ∀ j : StationId,
      (t.writeStation st e).stations[j].state = .vacant ∨ (t.writeStation st e).stations[j].state = .lost →
      t.stations[j].state = .vacant ∨ t.stations[j].state = .lost := fun j => by
    rw [writeStation_stations, station_set]
    split
    · rename_i here
      exact here ▸ gone
    · exact id
  exact ⟨fun l => ⟨(h.lines l).1, fun j listed => not_or.1 fun out =>
      not_or.2 ((h.lines l).2 j listed) (states j out)⟩,
    h.board.of_eq rfl rfl counts, fun j out => h.free j (states j out), h.filtered, h.exchange, h.system⟩

/-! ### The attention unit takes an outcome -/

theorem servable_ascending (t : State) (set : StationSet) :
    (t.servable set).Pairwise (fun a b => a < b) :=
  ((List.pairwise_lt_finRange 31).filter _).filter _

theorem servable_stand (t : State) (set : StationSet) (st : StationId) (listed : st ∈ t.servable set) :
    t.stations[st].state ≠ .vacant ∧ t.stations[st].state ≠ .lost := by
  have stands := (List.mem_filter.1 listed).2
  rw [Bool.and_eq_true, decide_eq_true_eq, decide_eq_true_eq] at stands
  exact stands

theorem afterRoll_lawful (r : Line) (set : StationSet) (union : Bool) {list : List StationId}
    (ascending : list.Pairwise (fun a b => a < b)) : LineLawful (r.afterRoll set union list) := by
  refine ⟨ascending, ?_, nofun, nofun⟩
  unfold Line.afterRoll
  dsimp only
  split
  · rename_i empty
    refine iff_of_false (not_not_intro empty) ?_
    split <;> nofun
  · rename_i some
    exact iff_of_true some rfl

theorem endRoll (h : Tables own exempt k s t) (l : LineId) (set : StationSet) (union : Bool) :
    Tables own exempt (k + 1) s (t.endRoll l set union) := by
  have written := h.writeLine l (afterRoll_lawful t.lines[l] set union (servable_ascending t set))
    (servable_stand t set) ⟨rfl, rfl, rfl⟩
  unfold State.endRoll
  dsimp only
  split
  · exact written.queueReserved rfl
  · exact written.more

theorem rollFails (h : Tables own exempt k s t) (l : LineId) (p m : StationSet)
    (rolling : t.lines[l].state = .roll) : Tables own exempt (k + 1) s (t.rollFails l p m) := by
  unfold State.rollFails
  split
  · exact h.endRoll l _ true
  · obtain ⟨⟨ascending, serving, -, fails⟩, members⟩ := h.lines l
    exact (h.writeLine l (r := { t.lines[l] with rollAttempt := true }) ⟨ascending, serving, fun _ => rolling, fails⟩
      members ⟨rfl, rfl, rfl⟩).more

theorem rollEnd (h : Tables own exempt k s t) (l : LineId) (o : Outcome) (rolling : t.lines[l].state = .roll) :
    Tables own exempt (k + 1) s (t.rollEnd l o) := by
  cases o with
  | rollResult v p m =>
    cases v with
    | consistent => exact h.endRoll l p false
    | mismatch => exact h.rollFails l p m rolling
    | garbled => exact h.rollFails l p m rolling
  | _ => exact h.more

theorem dropHead (h : Tables own exempt k s t) (l : LineId) (serving : t.lines[l].state = .serving) :
    Tables own exempt k s (t.writeLine l t.lines[l].dropHead) :=
  h.writeLine l (dropHead_lawful (h.lines l).1 serving) (fun st listed => (h.lines l).2 st (dropHead_mem listed))
    (dropHead_sameLine _)

theorem causeAck (h : Tables own exempt k s t) (l : LineId) (st : StationId) (payload : List Byte)
    (serving : t.lines[l].state = .serving) : Tables own exempt (k + 1) s (t.causeAck l st payload) := by
  have dropped := h.dropHead l serving
  have noted : Tables own exempt k s ((if t.mode = .loopback then t
      else t.writeStation st { t.stations[st] with lastCause := some (causeOf payload) }).writeLine l
        t.lines[l].dropHead) := by
    split
    · exact dropped
    · exact dropped.entry st rfl id
  unfold State.causeAck
  dsimp only
  split
  · exact noted.queueReserved rfl
  · exact noted.more

theorem readFails (h : Tables own exempt k s t) (l : LineId) (st : StationId) (o : Outcome)
    (serving : t.lines[l].state = .serving) : Tables own exempt (k + 1) s (t.readFails l st o) := by
  unfold State.readFails
  split
  · exact (h.dropHead l serving).queueReserved rfl
  · obtain ⟨⟨ascending, list, roll, -⟩, members⟩ := h.lines l
    exact (h.writeLine l (r := { t.lines[l] with readFailures := true })
      ⟨ascending, list, roll, fun _ => serving⟩ members ⟨rfl, rfl, rfl⟩).more

theorem causeEnd (h : Tables own exempt k s t) (l : LineId) (st : StationId) (o : Outcome) :
    Tables own exempt (k + 1) s (t.causeEnd l st o) := by
  unfold State.causeEnd
  split
  · rename_i head
    have serving : t.lines[l].state = .serving :=
      lawful_list_nonempty (h.lines l).1 (List.mem_of_mem_head? head)
    cases o with
    | ack payload => exact h.causeAck l st payload serving
    | nak reason => exact (h.dropHead l serving).more
    | busy | silent | garbled | echoMismatch => exact h.readFails l st _ serving
    | _ => exact h.more
  · exact h.more

/-! ### The slot table takes an outcome -/

theorem completion_told (t : State) (i : SlotId) (r : Slot) (report : Bool) :
    exchangeIn (if report then t.reports ++ [⟨t.uptime, completionBody i r⟩] else t.reports) ≤
        exchangeIn t.reports + 1 ∧
      systemIn (if report then t.reports ++ [⟨t.uptime, completionBody i r⟩] else t.reports) =
        systemIn t.reports := by
  cases report
  · exact ⟨Nat.le_succ _, rfl⟩
  · exact ⟨(exchangeIn_append _ _ rfl).le, systemIn_append _ _ rfl⟩

theorem slotEnds_few {i : SlotId} {u : State} (ends : SlotEnds t i u) :
    exchangeIn u.reports ≤ exchangeIn t.reports + 1 := by
  cases ends with
  | ended r report => exact (completion_told t i r report).1
  | repeats p => exact (completion_told t i _ _).1
  | retried n => exact Nat.le_succ _

theorem slotEnds {i : SlotId} {u : State} {j : Nat} (h : Tables (some i) exempt k s t) (ends : SlotEnds t i u)
    (stands : exempt = none ∨ (exempt = some i ∧ u.slots[i].state.armed = false))
    (few : exchangeIn u.reports ≤ exchangeIn t.reports + j) : Tables none none (k + j) s u := by
  have mine : t.slots[i].state = .active := (h.board.active i).2 rfl
  have board := ends.board h.board
  have free := ends.free h.free stands mine
  obtain ⟨lines, states, system⟩ : u.lines = t.lines ∧
      (∀ st : StationId, u.stations[st].state = t.stations[st].state) ∧
      systemIn u.reports = systemIn t.reports := by
    cases ends with
    | ended r report => exact ⟨rfl, fun st => recount_state _ _ _ _, (completion_told t i r report).2⟩
    | repeats p => exact ⟨rfl, fun _ => rfl, (completion_told t i _ _).2⟩
    | retried n => exact ⟨rfl, fun _ => rfl, rfl⟩
  refine ⟨fun l => ?_, board, free, by rw [lines]; exact h.filtered, ?_, system.trans h.system⟩
  · rw [lines]
    refine ⟨(h.lines l).1, fun st listed => ?_⟩
    rw [states]
    exact (h.lines l).2 st listed
  · have before := h.exchange
    omega

end Tables

/-! ### The station table takes an outcome -/

/-- The link failures of R88. -/
def Outcome.linkFails (o : Outcome) : Prop := o = .silent ∨ o = .garbled ∨ o = .echoMismatch

/-- A station not LOST becomes so at a link failure only (R88, R89). -/
theorem afterExchange_lost {e : Station} {o : Outcome} (scored : StationScored e) (stood : e.state ≠ .lost)
    (lost : (e.afterExchange o).state = .lost) : o.linkFails := by
  have low : ¬ 240 ≤ e.score := fun high => stood (scored.2 high)
  have top : 240 ≤ (e.afterExchange o).score := by
    by_contra below
    unfold Station.afterExchange at lost below
    dsimp only at lost below
    unfold StationState.onScore at lost
    rw [decide_eq_false below, Bool.and_false] at lost
    cases state : e.state
    case lost => exact stood state
    all_goals
      rw [state] at lost
      simp only [Bool.false_eq_true, if_false] at lost
      repeat' split at lost
      all_goals cases lost
  unfold Station.afterExchange at top
  dsimp only at top
  cases o with
  | silent => exact .inl rfl
  | garbled => exact .inr (.inl rfl)
  | echoMismatch => exact .inr (.inr rfl)
  | _ =>
    simp only [Outcome.score] at top
    split at top <;> omega

/-- How the station table leaves an outcome: nothing written; an entry whose station stands as before or for
the first time, told or not; or a station LOST. -/
inductive StationTaken (s : State) (x : Exchange) (o : Outcome) : State → Prop where
  | untouched : StationTaken s x o s
  | stands (st : StationId) (e : Station) (armed : e.armed = s.stations[st].armed)
      (gone : e.state = .vacant ∨ e.state = .lost →
        s.stations[st].state = .vacant ∨ s.stations[st].state = .lost) :
      StationTaken s x o (s.writeStation st e)
  | told (st : StationId) (e : Station) (b : ReportBody) (armed : e.armed = s.stations[st].armed)
      (gone : e.state = .vacant ∨ e.state = .lost →
        s.stations[st].state = .vacant ∨ s.stations[st].state = .lost)
      (notSystem : (⟨s.uptime, b⟩ : Report).isSystem = false) :
      StationTaken s x o ((s.writeStation st e).queueReserved b)
  | lost (st : StationId) (e : Station) (reason : StationReason) (old : Option StationState)
      (armed : e.armed = s.stations[st].armed) (state : e.state = .lost) (station : x.station = stationAddress st)
      (link : x.kind = .slot → o.linkFails) :
      StationTaken s x o ((s.writeStation st e).loseStation st reason old x.slot)

theorem onScore_vacant {state : StationState} {score : Nat} (vacant : state.onScore score = .vacant) :
    state = .vacant := by
  unfold StationState.onScore at vacant
  split at vacant
  · cases vacant
  · cases state
    case vacant => rfl
    all_goals
      dsimp only at vacant
      repeat' split at vacant
      all_goals cases vacant

theorem scoreEnd_taken (h : StationsScored s) {x : Exchange} {st : StationId} (o : Outcome)
    (station : x.station = stationAddress st) : StationTaken s x o (s.scoreEnd st x.slot o) := by
  unfold State.scoreEnd
  dsimp only
  split
  · rename_i same
    exact .stands st _ rfl (fun gone => same ▸ gone)
  · rename_i moved
    split
    · rename_i lost
      exact .lost st _ _ _ rfl lost station
        (fun _ => afterExchange_lost (h st) (fun stood => moved (lost.trans stood.symm)) lost)
    · rename_i stands
      refine .told st _ _ rfl (fun gone => ?_) rfl
      rcases gone with vacant | lost
      · exact .inl (onScore_vacant vacant)
      · exact absurd lost stands

theorem probeEnd_taken {x : Exchange} {st : StationId} (o : Outcome) (station : x.station = stationAddress st)
    (kind : x.kind = .probe) (owner : x.slot = none) : StationTaken s x o (s.probeEnd st o) := by
  have fails : StationTaken s x o (s.probeFails st) := by
    unfold State.probeFails
    dsimp only
    split
    · exact .stands st _ rfl id
    · rw [← owner]
      exact .lost st _ _ _ rfl rfl station (fun slot => by rw [kind] at slot; cases slot)
  cases o with
  | ack payload => exact .told st _ _ rfl (by simp) rfl
  | nak | silent | garbled | echoMismatch => exact fails
  | _ => exact .untouched

theorem stationTakes_taken (h : StationsScored s) {x : Exchange} (o : Outcome)
    (owner : x.kind ≠ .slot → x.slot = none) : StationTaken s x o (s.stationTakes x o) := by
  unfold State.stationTakes
  split
  · exact .untouched
  · split
    · exact .untouched
    · rename_i st addressed
      have station := address_of_station? _ _ addressed
      split
      · exact scoreEnd_taken h o station
      · exact scoreEnd_taken h o station
      · rename_i kind
        exact probeEnd_taken o station kind (owner (by rw [kind]; nofun))
      · exact .untouched

/-! ### Both together (R47, steps 1 and 2) -/

theorem link_ne_roll (c : SlotCommand) : c.link ≠ .roll := by cases c <;> nofun

/-- Before the end is handed out the exchange's own slot is the ACTIVE one. -/
theorem Standing.tables (h : Standing s) {x : Exchange} (present : s.exchange = some x) :
    Tables x.slot none 0 s s := by
  have own : s.ownSlot = x.slot := by rw [State.ownSlot, present]; rfl
  exact ⟨h.lines, own ▸ h.board, h.free, h.lineFiltered, Nat.le_refl _, rfl⟩

/-- The owner takes the outcome where the station stands. -/
theorem Tables.ownerTakes {x : Exchange} {o : Outcome} (h : Standing s) (present : s.exchange = some x)
    (ends : EndsBy x o) (taken : Tables x.slot none 1 s t) (rolling : x.kind = .roll → t = s) :
    Tables none none 2 s (t.ownerTakes x o) := by
  obtain ⟨slot, notSlot, roll, cause, -⟩ := h.shaped x present
  cases kind : x.kind with
  | slot =>
    obtain ⟨-, i, owner, -, command⟩ := slot kind
    have notRoll := ends (by rw [command]; exact link_ne_roll _)
    rw [owner] at taken
    simp only [State.ownerTakes, kind, owner]
    have finished := slotEnd_cases t i o notRoll
    exact taken.slotEnds finished (.inl rfl) (Tables.slotEnds_few finished)
  | roll =>
    obtain ⟨-, -, l, level, state⟩ := roll kind
    have here := rolling kind
    rw [notSlot (by rw [kind]; nofun)] at taken
    simp only [State.ownerTakes, kind, level]
    exact taken.rollEnd l o (by rw [here]; exact state)
  | cause =>
    obtain ⟨-, level, -⟩ := cause kind
    obtain ⟨l, level⟩ := Option.isSome_iff_exists.1 level
    rw [notSlot (by rw [kind]; nofun)] at taken
    cases addressed : Address.station? x.station with
    | none =>
      simp only [State.ownerTakes, kind, level, addressed]
      exact taken.more
    | some st =>
      simp only [State.ownerTakes, kind, level, addressed]
      exact taken.causeEnd l st o
  | probe =>
    rw [notSlot (by rw [kind]; nofun)] at taken
    simp only [State.ownerTakes, kind]
    exact taken.more

/-- The owner takes the outcome that has lost the station: its slot fails unreported, a list holds the station
no more. -/
theorem Tables.ownerTakes_lost {x : Exchange} {o : Outcome} {st : StationId} (h : Standing s)
    (present : s.exchange = some x) (station : x.station = stationAddress st)
    (link : x.kind = .slot → o.linkFails) (gone : t.stations[st].state = .lost)
    (same : ∀ i : SlotId, x.slot = some i → t.slots[i].station = s.slots[i].station)
    (unlisted : ∀ l : LineId, st ∉ t.lines[l].serviceList) (taken : Tables x.slot x.slot 2 s t) :
    Tables none none 2 s (t.ownerTakes x o) := by
  obtain ⟨slot, notSlot, roll, cause, -⟩ := h.shaped x present
  cases kind : x.kind with
  | slot =>
    obtain ⟨-, i, owner, at_slot, -⟩ := slot kind
    have lost : t.stationLostOf i = true := (stationLostOf_iff t i).2
      ⟨st, (same i owner).trans (at_slot.symm.trans station), gone⟩
    have fails : t.slotEnd i o =
        t.runEnded i (t.slots[i].finished .failed .stationLost none none false) false := by
      rcases link kind with rfl | rfl | rfl
      all_goals
        refine (slotFailed_eq t i true _).trans (if_pos ?_)
        rw [lost]
        rfl
    rw [owner] at taken
    simp only [State.ownerTakes, kind, owner]
    rw [fails]
    exact taken.slotEnds (j := 0) (.ended _ false rfl rfl (by simp [Slot.finished]))
      (.inr ⟨rfl, by rw [runEnded_slots]; rfl⟩) (Nat.le_refl _)
  | roll =>
    have broadcast := (roll kind).1
    rw [station] at broadcast
    exact absurd broadcast (stationAddress_ne_broadcast st)
  | cause =>
    obtain ⟨-, level, -⟩ := cause kind
    obtain ⟨l, level⟩ := Option.isSome_iff_exists.1 level
    have stays : t.causeEnd l st o = t := if_neg fun head => unlisted l (List.mem_of_mem_head? head)
    rw [notSlot (by rw [kind]; nofun)] at taken
    simp only [State.ownerTakes, kind, level, station, station?_address]
    rw [stays]
    exact taken
  | probe =>
    rw [notSlot (by rw [kind]; nofun)] at taken
    simp only [State.ownerTakes, kind]
    exact taken

/-- What the station table and the owner leave of the tables. -/
theorem Standing.tablesEnded (h : Standing s) {x : Exchange} {o : Outcome} (present : s.exchange = some x)
    (ends : EndsBy x o) : Tables none none 2 s ((s.stationTakes x o).ownerTakes x o) := by
  obtain ⟨-, notSlot, roll, -, -⟩ := h.shaped x present
  have before := h.tables present
  have rolling : x.kind = .roll → s.stationTakes x o = s := fun kind => by
    unfold State.stationTakes
    rw [(roll kind).1]
    split <;> rfl
  have taken := stationTakes_taken h.scored (x := x) o notSlot
  generalize s.stationTakes x o = t at taken rolling ⊢
  cases taken with
  | untouched => exact before.more.ownerTakes h present ends rolling
  | stands st e armed gone => exact (before.entry st armed gone).more.ownerTakes h present ends rolling
  | told st e b armed gone notSystem =>
    exact ((before.entry st armed gone).queueReserved notSystem).ownerTakes h present ends rolling
  | lost st e reason old armed state station link =>
    have entry : ∀ j : StationId, (s.writeStation st e).stations[j].state =
        if st = j then .lost else s.stations[j].state := fun j => by
      rw [writeStation_stations, station_set]
      split
      · exact state
      · rfl
    have board : Board x.slot (s.writeStation st e) := before.board.of_eq rfl rfl fun j => by
      rw [writeStation_stations, station_set]
      split
      · rename_i here
        exact here ▸ armed
      · rfl
    have listed : ListedBut st (s.writeStation st e) := fun l => ⟨h.lineLawful l, fun j mem other => by
      rw [entry, if_neg (Ne.symm other)]
      exact (h.lines l).2 j mem⟩
    have free := loseStation_free (s := s.writeStation st e) st reason old x.slot (own := x.slot)
      (fun i => (board.active i).1) (fun j other out i armedAt => by
        rw [entry, if_neg (Ne.symm other)] at out
        cases h.free j out i armedAt)
    have lines := ListedBut.loseStation st reason old x.slot listed
    have lostBoard := Board.loseStation st reason old x.slot board
    have filtered := loseStation_filtered (s := s.writeStation st e) st reason old x.slot h.filtered
    have gone := (loseStation_state st reason old x.slot (s.writeStation st e) st).trans
      ((entry st).trans (if_pos rfl))
    have slots : ∀ i : SlotId, ((s.writeStation st e).loseStation st reason old x.slot).slots[i].station =
        s.slots[i].station := fun i => by
      rw [loseStation_slots, failSlotsOf_slots]
      split <;> rfl
    have unlisted : ∀ l : LineId, st ∉ ((s.writeStation st e).loseStation st reason old x.slot).lines[l].serviceList :=
      fun l => by
        rw [loseStation_lines]
        exact dropStation_notMem (h.lineLawful l) st
    have mode : ((s.writeStation st e).loseStation st reason old x.slot).mode = s.mode := by
      have only := loseStation_only (s.writeStation st e) st reason old x.slot
      unfold OnlyTables at only
      rw [only]
      rfl
    have reports := loseStation_reports (s.writeStation st e) st reason old x.slot
    obtain ⟨exchange, system⟩ := lossReports_exchange (s.writeStation st e) st reason old x.slot s.reports
    generalize (s.writeStation st e).loseStation st reason old x.slot = u at *
    have told : u.reports = s.reports ++ (s.writeStation st e).lossReports st reason old x.slot := reports
    rw [← told] at exchange system
    rw [LinesFiltered, mode] at filtered
    exact Tables.ownerTakes_lost h present station link gone (fun i _ => slots i) unlisted
      ⟨lines, lostBoard, free, filtered, exchange, system⟩

end Sys2Proof.Machine
end

/-! ## The end of an exchange, handed out (R47) -/
section
namespace Sys2Proof.Machine
open Sys2Proof.Safety

variable {s t : State}

/-! ### The steps of R47 in an order that keeps every relation between them -/

/-- The state of an exchange's end with the record discarded, the reservation released and the dispatcher told,
and with no mode requested. -/
def State.settle (x : Exchange) (t : State) : State :=
  { t with
    reserved := 0, exchange := none, loopAnswer := none, requested := none
    dispatcher := if t.mode.traffic then (if x.stepPending then .held else .idle) else .stopped }

/-- The STEP report of an exchange that carries step-pending, once the reservation has been released. -/
def State.stepTold (x : Exchange) (o : Outcome) (t : State) : State :=
  if x.stepPending then
    { t with reports := t.reports ++ [⟨t.uptime, .step x.kind x.slot x.level x.station o.bare⟩] }
  else t

/-- A mode requested during the exchange is completed (R140). -/
def State.granted (requested : Option Mode) (t : State) : State :=
  match requested with
  | none => t
  | some m => t.changeMode m .request

/-- The dispatcher's state and the requested mode, written together. -/
def State.told (d : DispatcherState) (r : Option Mode) (t : State) : State :=
  { t with dispatcher := d, requested := r }

/-- The test of a soft level reads neither the dispatcher nor the requested mode. -/
theorem softTest_told (t : State) (d : DispatcherState) (r : Option Mode) (l : SoftId) :
    (t.told d r).softTest l = (t.softTest l).told d r := by
  have same : (t.told d r).softAdmitted l = t.softAdmitted l := rfl
  unfold State.softTest
  rw [same]
  split <;> rfl

theorem softTests_told (t : State) (d : DispatcherState) (r : Option Mode) :
    (t.told d r).softTests = t.softTests.told d r := by
  unfold State.softTests
  rw [softTest_told, softTest_told, softTest_told]

theorem unasked_eq (t : State) (h : t.requested = none) : { t with requested := none } = t := by
  rw [← h]

theorem completeRequested_granted (t : State) :
    t.completeRequested = State.granted t.requested { t with requested := none } := by
  unfold State.completeRequested State.granted
  cases requested : t.requested with
  | none => exact (unasked_eq t requested).symm
  | some m => rfl

/-- Steps 4 to 7 of R47 with the record discarded first. -/
theorem handedOut_eq (v : State) (x : Exchange) (o : Outcome) :
    (((v.stepReport x o).release).dispatcherAfter x).completeRequested =
      State.granted v.requested (State.stepTold x o (State.settle x v)).softTests := by
  have released : State.stepTold x o (State.settle x v) =
      State.told (if v.mode.traffic then (if x.stepPending then .held else .idle) else .stopped) none
        { (v.stepReport x o) with reserved := 0, exchange := none, loopAnswer := none } := by
    unfold State.stepTold State.stepReport State.settle
    generalize (if v.mode.traffic then (if x.stepPending then DispatcherState.held else .idle) else .stopped) = d
    by_cases step : x.stepPending = true
    · rw [if_pos step, if_pos step]
      rfl
    · rw [if_neg step, if_neg step]
      rfl
  have only := softTests_only { (v.stepReport x o) with reserved := 0, exchange := none, loopAnswer := none }
  have stands : (v.stepReport x o).mode = v.mode ∧ (v.stepReport x o).requested = v.requested := by
    unfold State.stepReport
    split <;> exact ⟨rfl, rfl⟩
  have told := softTests_told { (v.stepReport x o) with reserved := 0, exchange := none, loopAnswer := none }
    (if v.mode.traffic then (if x.stepPending then .held else .idle) else .stopped) none
  unfold OnlySoft at only
  rw [completeRequested_granted, released, told]
  unfold State.release
  generalize State.softTests { (v.stepReport x o) with reserved := 0, exchange := none, loopAnswer := none } = w
    at only ⊢
  have mode : w.mode = v.mode := by
    rw [only]
    exact stands.1
  have requested : w.requested = v.requested := by
    rw [only]
    exact stands.2
  rw [show (w.dispatcherAfter x).requested = v.requested from requested, ← mode]
  rfl

theorem settle_idle (x : Exchange) (z : State) : (z.settle x).dispatcher ≠ .busy := by
  unfold State.settle
  dsimp only
  split
  · split <;> nofun
  · nofun

/-- A fault passed at the end, before or after the record is discarded. -/
theorem settle_takeFault (x : Exchange) (z : State) (f : FaultRecord) :
    (z.takeFault f).settle x = (z.settle x).takeFault f := by
  have stopped : (z.settle x).dispatcher.afterMode z.mode .halted = .stopped := by
    rw [afterMode_eq, if_neg (settle_idle x z)]
    rfl
  have record : (z.settle x).fault = z.fault := rfl
  unfold State.takeFault
  rw [record]
  split
  · rfl
  · split
    · rfl
    · split
      · rfl
      · unfold State.enterHalted
        rw [show (z.settle x).mode = z.mode from rfl, stopped]
        rfl

/-- HOLD forced at the end, before or after the record is discarded. -/
theorem settle_forceHold (x : Exchange) (z : State) (c : ModeCause) :
    (z.forceHold c).settle x = (z.settle x).forceHold c := by
  have stopped : (z.settle x).dispatcher.afterMode z.mode .hold = .stopped := by
    rw [afterMode_eq, if_neg (settle_idle x z)]
    rfl
  have mode : (z.settle x).mode = z.mode := rfl
  unfold State.forceHold
  rw [mode]
  split
  · have told : (z.settle x).modeTold .hold = (z.modeTold .hold).settle x := by
      unfold State.modeTold
      rw [mode, stopped]
      rfl
    rw [changeMode_eq, changeMode_eq, onEntry_other .hold _ nofun, onEntry_other .hold _ nofun, told, mode]
    unfold State.onBorder
    split
    · rfl
    · split <;> rfl
  · rfl

theorem settle_linkStuck (x : Exchange) (o : Outcome) (z : State) : (z.linkStuck x o).settle x =
    if o = .blocked then
      ((z.settle x).takeFault (faultOf .linkStuck z.uptime z.mode .busy (some x))).forceHold .link
    else z.settle x := by
  unfold State.linkStuck
  split
  · rw [settle_forceHold, settle_takeFault]
  · rfl

theorem endExchange_eq (s : State) (x : Exchange) (o : Outcome) (z : State)
    (tables : z = (s.stopLink.stationTakes x o).ownerTakes x o) : s.endExchange x o =
      State.granted (z.linkStuck x o).requested
        (State.stepTold x o ((z.linkStuck x o).settle x)).softTests := by
  rw [tables]
  exact handedOut_eq _ x o

/-- A mode request that outlives a stuck line finds the mode and the MODE reports as they stood. -/
theorem linkStuck_requested (x : Exchange) (o : Outcome) (z : State) {m : Mode}
    (asked : (z.linkStuck x o).requested = some m) : z.requested = some m ∧
      ((z.linkStuck x o).mode = z.mode ∧ (z.linkStuck x o).reports = z.reports) := by
  have holds : ∀ y : State, y.requested = z.requested → y.mode = z.mode → y.reports = z.reports →
      (y.forceHold .link).requested = some m → z.requested = some m ∧
        ((y.forceHold .link).mode = z.mode ∧ (y.forceHold .link).reports = z.reports) := by
    intro y requested mode reports still
    unfold State.forceHold at still ⊢
    split at still
    · rw [changeMode_requested] at still
      cases still
    · rename_i rests
      rw [if_neg rests]
      exact ⟨requested.symm.trans still, mode, reports⟩
  unfold State.linkStuck at asked ⊢
  split at asked
  · rename_i blocked
    rw [if_pos blocked]
    generalize faultOf .linkStuck z.uptime z.mode .busy (some x) = f at asked ⊢
    unfold State.takeFault at asked ⊢
    split at asked
    · exact holds _ rfl rfl rfl asked
    · split at asked
      · rename_i retained
        rw [if_pos retained]
        exact holds _ rfl rfl rfl asked
      · rename_i fresh
        rw [if_neg fresh]
        split at asked
        · rename_i third
          rw [if_pos third]
          exact holds _ rfl rfl rfl asked
        · have gone : ∀ y : State, y.mode = .halted → y.requested = none →
              (y.forceHold .link).requested ≠ some m := by
            intro y mode requested still
            have stands : y.forceHold .link = y := if_neg (by rw [mode]; nofun)
            rw [stands, requested] at still
            cases still
          exact absurd asked (gone _ rfl rfl)
  · rename_i other
    rw [if_neg other]
    exact ⟨asked, rfl, rfl⟩

/-! ### The relations -/

namespace Standing

/-- With the tables told and the record discarded every relation holds. -/
theorem settled (h : Standing s) {x : Exchange} (present : s.exchange = some x) (silent : s.lde = false)
    {z : State} (only : OnlyTables s z) (records : RecordsLawful z) (tables : Tables none none 2 s z) :
    Standing (z.settle x) ∧ exchangeIn z.reports ≤ 27 := by
  have busy := h.busy present
  obtain ⟨started, awake, running⟩ := h.busy_awake busy
  have reserved := h.dispatcher.2.1
  rw [if_pos busy] at reserved
  have room : exchangeIn z.reports ≤ 27 := by
    have before := h.reports.1
    have after := tables.exchange
    rw [reserved, exchangeOccupied_eq] at before
    omega
  refine ⟨?_, room⟩
  obtain ⟨lines, board, free, filtered, -, system⟩ := tables
  unfold OnlyTables at only
  rw [only]
  unfold State.settle
  exact { h with
    halted := ⟨h.halted.1, nofun, nofun⟩
    related := records.related
    scored := records.scored
    dispatcher := by
      refine ⟨iff_of_false nofun ?_, ?_, fun traffic => ?_, fun still => ?_⟩
      · exact settle_idle x s
      · exact (if_neg (settle_idle x s)).symm
      · dsimp only
        rw [if_pos traffic]
        split <;> nofun
      · dsimp only
        rw [show s.mode.traffic = false from still]
        exact .inr rfl
    link := by
      refine ⟨h.link.1, fun driven => ?_⟩
      rw [show s.lde = true from driven] at silent
      cases silent
    lines := lines
    distinct := board.distinct
    queued := board.queued
    active := board.active
    counted := board.counted
    free := free
    reports := ⟨room.trans (by decide), system.trans_le h.reports.2⟩
    modeLaw := ⟨h.modeLaw.1, h.modeLaw.2.1, fun dormant => absurd dormant awake⟩
    filtered := filtered
    shaped := nofun
    starting := fun begins => absurd started begins
    transitions := ⟨nofun, fun halted => absurd halted running, h.transitions.2.2.1,
      fun traffic => system.trans_le (h.transitions.2.2.2 traffic)⟩ }

theorem takeFault_reports (s : State) (f : FaultRecord) : (s.takeFault f).reports = s.reports := by
  have only := takeFault_only s f
  unfold OnlyFault at only
  rw [only]

theorem forceHold_exchange (s : State) (c : ModeCause) : exchangeIn (s.forceHold c).reports = exchangeIn s.reports := by
  unfold State.forceHold
  split
  · rw [changeMode_reports]
    exact exchangeIn_mode _ _ rfl
  · rfl

/-- A LINK_STUCK fault and the HOLD it forces. -/
theorem stuck (h : Standing s) (idle : s.dispatcher ≠ .busy) (awake : s.mode ≠ .dormant)
    (started : s.startUp = .done) (f : FaultRecord) : Standing ((s.takeFault f).forceHold .link) ∧
      exchangeIn ((s.takeFault f).forceHold .link).reports = exchangeIn s.reports := by
  refine ⟨(h.takeFault f idle awake started).forceHold .link (takeFault_idle s f idle), ?_⟩
  rw [forceHold_exchange, takeFault_reports]

theorem stepTold (h : Standing s) (idle : s.dispatcher ≠ .busy) (awake : s.mode ≠ .dormant)
    (room : exchangeIn s.reports ≤ 27) (x : Exchange) (o : Outcome) : Standing (s.stepTold x o) := by
  unfold State.stepTold
  split
  · refine h.queueReport s.soft awake rfl ?_
    rw [h.unreserved idle]
    exact room
  · exact h

theorem granted (h : Standing s) (idle : s.dispatcher ≠ .busy) (requested : Option Mode)
    (target : ∀ m, requested = some m → m ≠ .dormant ∧ m ≠ .halted)
    (now : ∀ m, requested = some m → s.mode ≠ .dormant ∧ s.mode ≠ .halted) (started : s.startUp = .done)
    (room : ∀ m, requested = some m → s.systemOccupied ≤ 2) : Standing (s.granted requested) := by
  cases requested with
  | none => exact h
  | some m =>
    exact h.changeMode .request (target m rfl) (now m rfl) started ((room m rfl).trans (by decide))
      (fun _ => room m rfl) (fun busy => absurd busy idle)

end Standing

/-! ### Between exchanges, awake -/

/-- No exchange is in flight, and the part is awake and started up. -/
structure Calm (s : State) : Prop where
  idle : s.dispatcher ≠ .busy
  awake : s.mode ≠ .dormant
  started : s.startUp = .done

namespace Calm

theorem changeMode (h : Calm s) {m : Mode} (c : ModeCause) (target : m ≠ .dormant) : Calm (s.changeMode m c) := by
  have only := changeMode_only s m c
  have mode := changeMode_mode s m c
  have dispatcher := changeMode_dispatcher s m c
  rw [afterMode_eq, if_neg h.idle] at dispatcher
  refine ⟨?_, by rw [mode]; exact target, ?_⟩
  · rw [dispatcher]
    split
    · split
      · exact h.idle
      · split
        · nofun
        · exact h.idle
    · nofun
  · unfold OnlyMode at only
    rw [only]
    exact h.started

theorem forceHold (h : Calm s) (c : ModeCause) : Calm (s.forceHold c) := by
  unfold State.forceHold
  split
  · exact h.changeMode c nofun
  · exact h

theorem takeFault (h : Calm s) (f : FaultRecord) : Calm (s.takeFault f) := by
  refine ⟨Standing.takeFault_idle s f h.idle, ?_, ?_⟩
  · unfold State.takeFault
    split
    · exact h.awake
    · split
      · exact h.awake
      · split
        · exact h.awake
        · nofun
  · have only := takeFault_only s f
    unfold OnlyFault at only
    rw [only]
    exact h.started

theorem stepTold (h : Calm s) (x : Exchange) (o : Outcome) : Calm (s.stepTold x o) := by
  unfold State.stepTold
  split
  · exact ⟨h.idle, h.awake, h.started⟩
  · exact h

theorem softTests (h : Calm s) : Calm s.softTests := by
  have only := softTests_only s
  unfold OnlySoft at only
  rw [only]
  exact ⟨h.idle, h.awake, h.started⟩

theorem granted (h : Calm s) {requested : Option Mode} (target : ∀ m, requested = some m → m ≠ .dormant) :
    Calm (s.granted requested) := by
  cases requested with
  | none => exact h
  | some m => exact h.changeMode .request (target m rfl)

end Calm

theorem stepTold_system (t : State) (x : Exchange) (o : Outcome) :
    systemIn (t.stepTold x o).reports = systemIn t.reports := by
  unfold State.stepTold
  split
  · exact systemIn_append _ _ rfl
  · rfl

theorem softTest_system (t : State) (l : SoftId) : systemIn (t.softTest l).reports = systemIn t.reports := by
  unfold State.softTest
  split
  · exact systemIn_append _ _ rfl
  · rfl

theorem softTests_system (t : State) : systemIn t.softTests.reports = systemIn t.reports := by
  unfold State.softTests
  rw [softTest_system, softTest_system, softTest_system]

theorem softTests_mode (t : State) : t.softTests.mode = t.mode := by
  have only := softTests_only t
  unfold OnlySoft at only
  rw [only]

theorem stepTold_mode (t : State) (x : Exchange) (o : Outcome) : (t.stepTold x o).mode = t.mode := by
  unfold State.stepTold
  split <;> rfl

/-- The end of an exchange keeps the relations, and leaves none in flight. -/
theorem Standing.endExchange_calm (h : Standing s) {x : Exchange} {o : Outcome} (present : s.exchange = some x)
    (ends : EndsBy x o) : Standing (s.endExchange x o) ∧ Calm (s.endExchange x o) := by
  obtain ⟨started, awake, running⟩ := h.busy_awake (h.busy present)
  have stopped := h.stopLink
  have records : RecordsLawful ((s.stopLink.stationTakes x o).ownerTakes x o) :=
    (stopped.records.stationTakes x o).ownerTakes x o
  have only : OnlyTables s.stopLink ((s.stopLink.stationTakes x o).ownerTakes x o) :=
    (stationTakes_only s.stopLink x o).trans (ownerTakes_only _ x o)
  have tables := stopped.tablesEnded (x := x) (o := o) present ends
  have ended := endExchange_eq s x o _ rfl
  rw [ended]
  clear ended
  generalize (s.stopLink.stationTakes x o).ownerTakes x o = z at *
  obtain ⟨settled, room⟩ := stopped.settled present rfl only records tables
  have system : systemIn z.reports = systemIn s.reports := tables.system
  obtain ⟨mode, requested, startUp⟩ : z.mode = s.mode ∧ z.requested = s.requested ∧ z.startUp = s.startUp := by
    unfold OnlyTables at only
    rw [only]
    exact ⟨rfl, rfl, rfl⟩
  have calm : Calm (z.settle x) := ⟨settle_idle x z, mode.symm ▸ awake, startUp.trans started⟩
  obtain ⟨told, few, quiet⟩ : Standing ((z.linkStuck x o).settle x) ∧
      exchangeIn ((z.linkStuck x o).settle x).reports ≤ 27 ∧ Calm ((z.linkStuck x o).settle x) := by
    rw [settle_linkStuck]
    split
    · obtain ⟨stuck, same⟩ := settled.stuck calm.idle calm.awake calm.started
        (faultOf .linkStuck z.uptime z.mode .busy (some x))
      exact ⟨stuck, same.trans_le room, (calm.takeFault _).forceHold _⟩
    · exact ⟨settled, room, calm⟩
  have tested := (told.stepTold quiet.idle quiet.awake few x o).softTests
  have quieter := (quiet.stepTold x o).softTests
  have asked : ∀ m, (z.linkStuck x o).requested = some m → s.requested = some m ∧
      (z.linkStuck x o).mode = s.mode ∧ systemIn (z.linkStuck x o).reports = systemIn s.reports := by
    intro m asks
    obtain ⟨still, sameMode, sameReports⟩ := linkStuck_requested x o z asks
    exact ⟨requested.symm.trans still, sameMode.trans mode, (congrArg systemIn sameReports).trans system⟩
  have target : ∀ m, (z.linkStuck x o).requested = some m → m ≠ .dormant ∧ m ≠ .halted := by
    intro m asks
    have law := h.halted.2
    rw [(asked m asks).1] at law
    exact ⟨fun dormant => law.2 (congrArg some dormant), fun halted => law.1 (congrArg some halted)⟩
  refine ⟨tested.granted quieter.idle _ target (fun m asks => ?_) quieter.started (fun m asks => ?_),
    quieter.granted (fun m asks => (target m asks).1)⟩
  · rw [softTests_mode, stepTold_mode]
    show (z.linkStuck x o).mode ≠ .dormant ∧ (z.linkStuck x o).mode ≠ .halted
    rw [(asked m asks).2.1]
    exact ⟨awake, running⟩
  · rw [systemOccupied_eq, softTests_system, stepTold_system]
    show systemIn (z.linkStuck x o).reports ≤ 2
    rw [(asked m asks).2.2]
    exact (h.transitions.1 (by rw [(asked m asks).1]; rfl)).2

theorem Standing.endExchange (h : Standing s) {x : Exchange} {o : Outcome} (present : s.exchange = some x)
    (ends : EndsBy x o) : Standing (s.endExchange x o) := (h.endExchange_calm present ends).1

end Sys2Proof.Machine
end

/-! ## Crystal losses, the control port, and every step (R154, R171 to R174) -/
section
namespace Sys2Proof.Machine
open Sys2Proof.Safety

namespace Standing
variable {s t : State}

/-! ### A crystal loss (R154, R165 to R167) -/

/-- A RUNNING monitor means a crystal that clocks a part that has started up. -/
theorem monitored (h : Standing s) (running : s.monitorRunning = true) : s.startUp = .done := by
  have source := h.clock.2.1 running
  by_contra begins
  rw [(h.starting begins).2.2.1] at source
  cases source

theorem takeFaultElsewhere_eq (h : Standing s) (calm : Calm s) (f : FaultRecord) :
    s.takeFaultElsewhere f = s.takeFault f := by
  have taken := h.takeFault f calm.idle calm.awake calm.started
  unfold State.takeFaultElsewhere
  split
  · exact taken.abandonFlight_idle (takeFault_idle s f calm.idle)
  · rfl

/-- The part with the crystal lost and the port empty, before the loss is passed on. -/
def crystalOut (s : State) : State :=
  { s with
    intake := .search, holding := [], overrun := none, reply := none
    clockSource := .lowSpeed, monitorRunning := false, crystal := .starting }

theorem crystalOut_stands (h : Standing s) : Standing (crystalOut s) :=
  h.clockStops .starting [] none (Nat.zero_le _) (fun _ => rfl) none .search

theorem crystalLost_idle (s : State) (idle : s.dispatcher ≠ .busy) : s.crystalLost =
    ((crystalOut s).takeFaultElsewhere
      (faultOf .crystalLost s.uptime s.mode s.dispatcher s.exchange)).forceHold .clock := by
  unfold State.crystalLost
  dsimp only
  rw [if_neg idle]
  rfl

/-- A loss found outside DORMANT leaves the part awake with no exchange in flight. -/
theorem crystalLost (h : Standing s) (running : s.monitorRunning = true) (awake : s.mode ≠ .dormant) :
    Standing s.crystalLost ∧ Calm s.crystalLost := by
  have started := h.monitored running
  have passes : ∀ u f, Standing u → Calm u →
      Standing ((u.takeFaultElsewhere f).forceHold .clock) ∧ Calm ((u.takeFaultElsewhere f).forceHold .clock) := by
    intro u f stands calm
    rw [stands.takeFaultElsewhere_eq calm f]
    have taken := stands.takeFault f calm.idle calm.awake calm.started
    exact ⟨taken.forceHold .clock (takeFault_idle u f calm.idle), (calm.takeFault f).forceHold .clock⟩
  by_cases busy : s.dispatcher = .busy
  · obtain ⟨x, present⟩ := Option.isSome_iff_exists.1 (h.dispatcher.1.2 busy)
    have ended := h.crystalOut_stands.endExchange_calm (x := x) (o := .abandoned) present (fun _ => nofun)
    have flight : (crystalOut s).abandonFlight = (crystalOut s).endExchange x .abandoned := by
      unfold State.abandonFlight
      rw [show (crystalOut s).exchange = some x from present]
    have lost : s.crystalLost = (((crystalOut s).abandonFlight).takeFaultElsewhere
        (faultOf .crystalLost (crystalOut s).abandonFlight.uptime s.mode s.dispatcher s.exchange)).forceHold
          .clock := by
      unfold State.crystalLost
      dsimp only
      rw [if_pos busy]
      rfl
    rw [lost, flight]
    exact passes _ _ ended.1 ended.2
  · rw [crystalLost_idle s busy]
    exact passes _ _ h.crystalOut_stands ⟨busy, awake, started⟩

theorem findLoss (h : Standing s) : Standing s.findLoss := by
  unfold State.findLoss
  split
  · rename_i running
    split
    · exact h.clockStops (if s.wake.isSome then .starting else .off) [] none (Nat.zero_le _) (fun _ => rfl) none
        .search
    · rename_i awake
      exact (h.crystalLost running awake).1
  · exact h

theorem takeFault_ready (s : State) (f : FaultRecord) : (s.takeFault f).ready = s.ready := by
  have only := takeFault_only s f
  unfold OnlyFault at only
  rw [only]

theorem forceHold_ready (s : State) (c : ModeCause) : (s.forceHold c).ready = s.ready := by
  unfold State.forceHold
  split
  · exact (changeMode_tables_other s .hold c nofun).2.2
  · rfl

/-- A loss behind which a taking goes on: the queue and the room are as the taking found them. -/
theorem findLoss_takes (h : Standing s) (running : s.monitorRunning = true) (starts : s.canStart = true) :
    Takes s.findLoss ∧ s.findLoss.ready = s.ready := by
  have room := h.takes starts
  have lost : s.findLoss = s.crystalLost := by
    rw [State.findLoss, if_pos running, if_neg room.awake]
  have calm := (h.crystalLost running room.awake).2
  have out : Calm (crystalOut s) := ⟨room.idle, room.awake, room.started⟩
  have same : s.crystalLost =
      ((crystalOut s).takeFault (faultOf .crystalLost s.uptime s.mode s.dispatcher s.exchange)).forceHold .clock := by
    rw [crystalLost_idle s room.idle, h.crystalOut_stands.takeFaultElsewhere_eq out]
  rw [lost]
  refine ⟨⟨calm.idle, calm.awake, calm.started, ?_⟩, ?_⟩
  · rw [same, exchangeOccupied_eq, forceHold_exchange, takeFault_reports]
    exact room.room
  · rw [same, forceHold_ready, takeFault_ready]
    rfl

/-! ### Frames and replies (R171 to R173) -/

/-- Outside DORMANT the port's fields are its own. -/
theorem port (h : Standing s) (awake : s.mode ≠ .dormant) (intake : Intake) (requests : List Frame)
    (overrun : Option Overrun) (reply : Option Reply) :
    Standing { s with intake := intake, holding := requests, overrun := overrun, reply := reply } := { h with
  asleep := fun dormant => absurd dormant awake }

theorem setReply (h : Standing s) (reply : Option Reply) : Standing { s with reply := reply } := { h with }

theorem restartSilence_stands (s : State) : s.restartSilence.mode = s.mode ∧
    s.restartSilence.startUp = s.startUp := by
  unfold State.restartSilence
  split <;> exact ⟨rfl, rfl⟩

theorem judge (h : Standing s) (f : Frame) (started : s.startUp = .done) (awake : s.mode ≠ .dormant) :
    Standing (Machine.judge f s).1 := by
  have restarted := h.restartSilence
  obtain ⟨mode, startUp⟩ := restartSilence_stands s
  unfold Machine.judge
  split
  · exact h
  · split
    · exact restarted
    · split
      · exact restarted
      · rename_i r _
        split
        · exact restarted
        · rename_i taken
          refine restarted.serve r (startUp.trans started) (by rw [mode]; exact awake) (fun halted => ?_)
          by_contra turned
          exact taken ⟨mode ▸ halted, Bool.eq_false_of_not_eq_true turned⟩

theorem takeHead (h : Standing s) (started : s.startUp = .done) (awake : s.mode ≠ .dormant) :
    Standing s.takeHead := by
  unfold State.takeHead
  split
  · exact h
  · exact (h.judge _ started awake).setReply _

theorem takesFrames_iff (s : State) : s.takesFrames = true ↔
    (s.startUp = .done ∧ s.clockSource = .crystal) ∧ s.mode ≠ .dormant := by
  simp only [State.takesFrames, Bool.and_eq_true, decide_eq_true_eq]

theorem frameArrives (h : Standing s) (f : Frame) : Standing (s.frameArrives f) := by
  unfold State.frameArrives
  split
  · rename_i takes
    obtain ⟨⟨started, -⟩, awake⟩ := (takesFrames_iff s).1 takes
    dsimp only
    split
    · exact h.port awake .search s.holding _ s.reply
    · split
      · have held := h.port awake .search (s.holding ++ [f]) s.overrun s.reply
        split
        · exact held.takeHead started awake
        · exact held
      · exact h.port awake .search s.holding _ s.reply
  · exact h

theorem nextReply (h : Standing s) (started : s.startUp = .done) (awake : s.mode ≠ .dormant) :
    Standing s.nextReply := by
  unfold State.nextReply
  split
  · split
    · exact h
    · exact h.setReply _
  · exact h.takeHead started awake

theorem portReplyEnds (h : Standing s) (r : Reply) (started : s.startUp = .done) (awake : s.mode ≠ .dormant) :
    Standing (s.portReplyEnds r) := by
  unfold State.portReplyEnds
  split
  · exact (h.port awake s.intake s.holding none none).nextReply started awake
  · exact (h.port awake s.intake s.holding.tail s.overrun none).nextReply started awake

end Standing

/-! ### The port's own relations -/

/-- The port's fields, and whether the part has started up, as they were. -/
structure PortSame (s t : State) : Prop where
  holding : t.holding = s.holding
  overrun : t.overrun = s.overrun
  reply : t.reply = s.reply
  startUp : t.startUp = s.startUp

section
variable {s t u : State}

theorem PortSame.trans (h : PortSame s t) (k : PortSame t u) : PortSame s u :=
  ⟨k.holding.trans h.holding, k.overrun.trans h.overrun, k.reply.trans h.reply, k.startUp.trans h.startUp⟩

theorem OnlyEnd.port (h : OnlyEnd s t) : PortSame s t := by
  unfold OnlyEnd at h
  rw [h]
  exact ⟨rfl, rfl, rfl, rfl⟩

theorem OnlyLines.port (h : OnlyLines s t) : PortSame s t := by
  unfold OnlyLines at h
  rw [h]
  exact ⟨rfl, rfl, rfl, rfl⟩

theorem OnlyUnderflow.port (h : OnlyUnderflow s t) : PortSame s t := by
  unfold OnlyUnderflow at h
  rw [h]
  exact ⟨rfl, rfl, rfl, rfl⟩

theorem PortStanding.of_same (h : PortStanding s) (same : PortSame s t) : PortStanding t where
  room := by rw [same.holding]; exact h.room
  counted := by rw [same.overrun]; exact h.counted
  quiet := by rw [same.reply, same.holding, same.overrun]; exact h.quiet
  starting := by rw [same.startUp, same.reply]; exact h.starting

/-- What serving a request leaves of the port: the frames held as they were, or fewer. -/
def PortKept (s t : State) : Prop :=
  t.holding.length ≤ s.holding.length ∧ (t.overrun = s.overrun ∨ t.overrun = none) ∧ t.startUp = s.startUp

theorem PortKept.refl (s : State) : PortKept s s := ⟨Nat.le_refl _, .inl rfl, rfl⟩

theorem PortSame.kept (h : PortSame s t) : PortKept s t := ⟨by rw [h.holding], .inl h.overrun, h.startUp⟩

theorem OnlySlots.kept (h : OnlySlots s t) : PortKept s t := h.tables.end.port.kept

theorem PortKept.trans (h : PortKept s t) (k : PortKept t u) : PortKept s u := by
  obtain ⟨fewer, marker, startUp⟩ := h
  obtain ⟨fewerStill, later, startUpStill⟩ := k
  exact ⟨fewerStill.trans fewer, later.elim (fun same => same ▸ marker) .inr, startUpStill.trans startUp⟩

end

theorem takeMode_port (s : State) (m : Mode) : PortKept s (s.takeMode m) := by
  unfold State.takeMode
  split
  · exact ⟨List.length_take_le' 1 _, .inr rfl, rfl⟩
  · split
    · exact PortKept.refl s
    · exact (changeMode_only s m .request).end.port.kept

/-- A request whose result keeps the port's four fields. -/
theorem PortKept.same {s t : State} (holding : t.holding = s.holding) (overrun : t.overrun = s.overrun)
    (startUp : t.startUp = s.startUp) : PortKept s t := ⟨by rw [holding], .inl overrun, startUp⟩

theorem serveSlots_port (s : State) :
    (∀ n st c p rl t o payload, PortKept s (serveLoadSlot n st c p rl t o payload s).1) ∧
      (∀ n, PortKept s (serveReleaseSlot n s).1) ∧ (∀ n, PortKept s (serveReadSlot n s).1) := by
  refine ⟨fun n st c p rl t o payload => ?_, fun n => ?_, fun n => ?_⟩
  · unfold serveLoadSlot
    repeat' split
    all_goals exact .same rfl rfl rfl
  · unfold serveReleaseSlot
    repeat' split
    all_goals exact .same rfl rfl rfl
  · unfold serveReadSlot
    split <;> exact .same rfl rfl rfl

theorem serveStart_port (set : SlotSet) (s : State) : PortKept s (serveStart set s).1 := by
  unfold serveStart
  split
  · exact PortKept.refl s
  · split
    · split
      · exact PortKept.refl s
      · exact (startAll_only _ s).kept
    · exact PortKept.refl s

theorem serveAbort_port (s : State) :
    (∀ n, PortKept s (serveAbortSlot n s).1) ∧ PortKept s (serveAbortAll s).1 := by
  refine ⟨fun n => ?_, ?_⟩
  · unfold serveAbortSlot
    split
    · exact (abortOne_only s _).kept
    · exact PortKept.refl s
  · dsimp only [serveAbortAll]
    exact (abortAll_only s).kept

theorem serveStations_port (s : State) :
    (∀ a mask, PortKept s (serveEnroll a mask s).1) ∧ (∀ a, PortKept s (serveWithdraw a s).1) ∧
      (∀ a, PortKept s (serveRestore a s).1) ∧ (∀ a mask, PortKept s (serveSetCauseMask a mask s).1) ∧
      (∀ a, PortKept s (serveReadStation a s).1) := by
  refine ⟨fun a mask => ?_, fun a => ?_, fun a => ?_, fun a mask => ?_, fun a => ?_⟩
  · unfold serveEnroll
    repeat' split
    all_goals exact .same rfl rfl rfl
  · unfold serveWithdraw
    repeat' split
    all_goals exact .same rfl rfl rfl
  · unfold serveRestore
    repeat' split
    all_goals exact .same rfl rfl rfl
  · unfold serveSetCauseMask
    repeat' split
    all_goals exact .same rfl rfl rfl
  · unfold serveReadStation
    split <;> exact .same rfl rfl rfl

theorem serveSetThreshold_port (k : Byte) (s : State) : PortKept s (serveSetThreshold k s).1 := by
  unfold serveSetThreshold
  split
  · rename_i fits
    dsimp only [accepted]
    split
    · exact PortKept.trans (.same rfl rfl rfl) (softTests_only { s with threshold := ⟨k.toNat, fits⟩ }).end.port.kept
    · exact .same rfl rfl rfl
  · exact PortKept.refl s

theorem serveUnmask_port (level : Byte) (s : State) : PortKept s (serveUnmask level s).1 := by
  unfold serveUnmask
  repeat' split
  all_goals exact .same rfl rfl rfl

theorem serveRaise_port (level : Byte) (s : State) : PortKept s (serveRaise level s).1 := by
  unfold serveRaise
  split
  · exact PortKept.refl s
  · exact (addOrigin_only s _ _).end.port.kept

theorem serveSetLoopAttention_port (level : Byte) (set : BitVec 32) (cause : Byte) (s : State) :
    PortKept s (serveSetLoopAttention level set cause s).1 := by
  unfold serveSetLoopAttention
  split
  · split
    · split
      · exact (PortKept.same rfl rfl rfl : PortKept s (s.writeLine _ _)).trans (changeLine_only _ _ _).port.kept
      · exact PortKept.refl s
    · exact PortKept.refl s
  · exact PortKept.refl s

theorem serveTimers_port (s : State) :
    (∀ n src reload soft flags, PortKept s (serveSetTimer n src reload soft flags s).1) ∧
      (∀ clear, PortKept s (serveReadTimers clear s).1) := by
  refine ⟨fun n src reload soft flags => ?_, fun clear => ?_⟩
  · unfold serveSetTimer
    repeat' split
    all_goals exact .same rfl rfl rfl
  · unfold serveReadTimers
    repeat' split
    all_goals exact .same rfl rfl rfl

theorem serveSetMode_port (target : Byte) (s : State) : PortKept s (serveSetMode target s).1 := by
  unfold serveSetMode
  split
  · exact PortKept.refl s
  · split
    · exact PortKept.refl s
    · exact takeMode_port s _

theorem serveFetch_port (count : Byte) (s : State) : PortKept s (serveFetch count s).1 := by
  unfold serveFetch
  split
  · dsimp only
    split
    · exact .same rfl rfl rfl
    · exact PortKept.trans (.same rfl rfl rfl) (softTests_only { s with
        reports := s.reports.drop count.toNat
        freeCount := s.freeCount + (s.reports.take count.toNat).length }).end.port.kept
  · exact PortKept.refl s

theorem serveStepAdvance_port (s : State) : PortKept s (serveStepAdvance s).1 := by
  unfold serveStepAdvance
  split <;> exact .same rfl rfl rfl

theorem serveWriteSettings_port (mask : Byte) (values : List Byte) (s : State) :
    PortKept s (serveWriteSettings mask values s).1 := by
  unfold serveWriteSettings
  split
  · exact PortKept.refl s
  · split
    · exact PortKept.refl s
    · split
      · exact PortKept.refl s
      · unfold State.settingsWritten
        dsimp only [accepted]
        split
        · exact (retimeFilters_only _).port.kept
        · exact .same rfl rfl rfl

/-- Whatever is asked, the frames held are those that were, or fewer (R142). -/
theorem serve_port (r : Request) (s : State) : PortKept s (serve r s).1 := by
  obtain ⟨load, release, read⟩ := serveSlots_port s
  obtain ⟨abort, abortAll⟩ := serveAbort_port s
  obtain ⟨enroll, withdraw, restore, setCauseMask, readStation⟩ := serveStations_port s
  obtain ⟨setTimer, readTimers⟩ := serveTimers_port s
  cases r with
  | loadSlot n st c p rl t o payload => exact load n st c p rl t o payload
  | releaseSlot n => exact release n
  | readSlot n => exact read n
  | start set => exact serveStart_port set s
  | abortSlot n => exact abort n
  | abortAll => exact abortAll
  | stepAdvance => exact serveStepAdvance_port s
  | enroll a mask => exact enroll a mask
  | withdraw a => exact withdraw a
  | restore a => exact restore a
  | setCauseMask a mask => exact setCauseMask a mask
  | readStation a => exact readStation a
  | setThreshold k => exact serveSetThreshold_port k s
  | unmask level => exact serveUnmask_port level s
  | raise level => exact serveRaise_port level s
  | setLoopAttention level set cause => exact serveSetLoopAttention_port level set cause s
  | setTimer n src reload soft flags => exact setTimer n src reload soft flags
  | readTimers clear => exact readTimers clear
  | setMode target => exact serveSetMode_port target s
  | fetch count => exact serveFetch_port count s
  | writeSettings mask values => exact serveWriteSettings_port mask values s
  | stepEnable | stepDisable | readAttention | reset | clearCause | readFault | clearFault | readSettings |
      identify | status => exact .same rfl rfl rfl

theorem judge_port (f : Frame) (s : State) : PortKept s (judge f s).1 := by
  have restarted : PortKept s s.restartSilence := by
    unfold State.restartSilence
    split <;> exact PortKept.refl s
  unfold judge
  repeat' split
  · exact PortKept.refl s
  · exact restarted
  · exact restarted
  · exact restarted
  · exact restarted.trans (serve_port _ _)

/-! ### The port at each event -/

namespace PortStanding
variable {s t : State}

/-- With a reply leaving TXD the frames held and the marker may be any that fit. -/
theorem sending (h : PortStanding s) {reply : Reply} (replies : t.reply = some reply)
    (started : t.startUp = .done) (room : t.holding.length ≤ 2)
    (marker : t.overrun = s.overrun ∨ t.overrun = none) : PortStanding t where
  room := room
  counted := by
    rcases marker with same | gone
    · rw [same]
      exact h.counted
    · rw [gone]
      rfl
  quiet := fun silent => by
    rw [replies] at silent
    cases silent
  starting := fun begins => absurd started begins

/-- A frame at the head is taken and its reply begins. -/
theorem takeHead {f : Frame} {rest : List Frame} (head : s.holding = f :: rest) (started : s.startUp = .done)
    (room : s.holding.length ≤ 2)
    (counted : s.overrun.all (fun m => decide (1 ≤ m.count) && decide (m.count ≤ 255)) = true) :
    PortStanding s.takeHead := by
  obtain ⟨fewer, marker, startUp⟩ := judge_port f s
  have taken : s.takeHead = { (judge f s).1 with reply := some (judge f s).2 } := by
    unfold State.takeHead
    rw [head]
  rw [taken]
  generalize judge f s = v at fewer marker startUp ⊢
  refine ⟨fewer.trans room, ?_, nofun, fun begins => absurd (startUp.trans started) begins⟩
  rcases marker with same | gone
  · dsimp only
    rw [same]
    exact counted
  · dsimp only
    rw [gone]
    rfl

theorem frameArrives (h : PortStanding s) (f : Frame) : PortStanding (s.frameArrives f) := by
  unfold State.frameArrives
  split
  · rename_i takes
    have started := ((Standing.takesFrames_iff s).1 takes).1.1
    have sends : ∀ m, s.overrun = some m ∨ s.holding ≠ [] → s.reply ≠ none := by
      intro m waiting silent
      obtain ⟨empty, unmarked⟩ := h.quiet silent
      rcases waiting with marked | held
      · rw [unmarked] at marked
        cases marked
      · exact held empty
    dsimp only
    split
    · rename_i m marked
      refine ⟨h.room, ?_, fun silent => absurd silent (sends m (.inl marked)), fun begins => absurd started begins⟩
      have counted := h.counted
      rw [marked] at counted
      simp only [Option.all_some, Bool.and_eq_true, decide_eq_true_eq] at counted ⊢
      exact ⟨Nat.le_min.2 ⟨by decide, Nat.succ_le_succ (Nat.zero_le _)⟩, Nat.min_le_left _ _⟩
    · rename_i unmarked
      split
      · rename_i fits
        have room : (s.holding ++ [f]).length ≤ 2 := by
          rw [List.length_append]
          exact fits
        split
        · rename_i silent
          have empty := (h.quiet (Option.isNone_iff_eq_none.1 silent)).1
          exact takeHead (s := { s with intake := .search, holding := s.holding ++ [f] }) (f := f) (rest := [])
            (by dsimp only; rw [empty]; rfl) started room h.counted
        · rename_i leaving
          exact ⟨room, h.counted, fun silent => absurd (Option.isNone_iff_eq_none.2 silent) leaving,
            fun begins => absurd started begins⟩
      · rename_i full
        have held : s.holding ≠ [] := fun empty => full (by rw [empty]; decide)
        exact ⟨h.room, rfl, fun silent => absurd silent (sends ⟨f.tag, 1⟩ (.inr held)),
          fun begins => absurd started begins⟩
  · exact h

/-- TXD has become idle: the next frame held is taken, or the marker given up, or nothing is held. -/
theorem nextReply (started : s.startUp = .done) (silent : s.reply = none) (room : s.holding.length ≤ 2)
    (counted : s.overrun.all (fun m => decide (1 ≤ m.count) && decide (m.count ≤ 255)) = true) :
    PortStanding s.nextReply := by
  unfold State.nextReply
  split
  · rename_i empty
    split
    · rename_i unmarked
      exact ⟨room, counted, fun _ => ⟨empty, unmarked⟩, fun _ => silent⟩
    · exact ⟨room, counted, nofun, fun begins => absurd started begins⟩
  · rename_i held
    obtain ⟨f, rest, head⟩ := List.exists_cons_of_ne_nil held
    exact takeHead head started room counted

theorem portReplyEnds (h : PortStanding s) (r : Reply) (leaving : s.reply = some r) :
    PortStanding (s.portReplyEnds r) := by
  have started : s.startUp = .done := by
    by_contra begins
    rw [h.starting begins] at leaving
    cases leaving
  unfold State.portReplyEnds
  split
  · exact nextReply (s := { s with reply := none, overrun := none }) started rfl h.room rfl
  · refine nextReply (s := { s with reply := none, holding := s.holding.tail }) started rfl ?_ h.counted
    exact (List.length_tail ▸ Nat.sub_le _ _ : s.holding.tail.length ≤ s.holding.length).trans h.room

/-- The port as a reset or a loss leaves it. -/
theorem empty (holding : t.holding = []) (overrun : t.overrun = none) (reply : t.reply = none) : PortStanding t where
  room := by rw [holding]; exact Nat.zero_le 2
  counted := by rw [overrun]; rfl
  quiet := fun _ => ⟨holding, overrun⟩
  starting := fun _ => reply

theorem of_empty (h : s.holding = [] ∧ s.overrun = none ∧ s.reply = none) (same : PortSame s t) :
    PortStanding t :=
  empty (same.holding.trans h.1) (same.overrun.trans h.2.1) (same.reply.trans h.2.2)

end PortStanding

/-- A crystal loss leaves the port as it was, or empty. -/
theorem findLoss_port (s : State) : PortSame s s.findLoss ∨
    (s.findLoss.holding = [] ∧ s.findLoss.overrun = none ∧ s.findLoss.reply = none) := by
  have passes : ∀ (u t : State) (f : FaultRecord), OnlyEnd u t →
      PortSame u ((t.takeFaultElsewhere f).forceHold .clock) := fun u t f only =>
    ((only.trans (takeFaultElsewhere_only t f)).trans (forceHold_only _ .clock).end).port
  have empties : ∀ t : State, PortSame (Standing.crystalOut s) t →
      t.holding = [] ∧ t.overrun = none ∧ t.reply = none := fun t same =>
    ⟨same.holding, same.overrun, same.reply⟩
  unfold State.findLoss
  split
  · refine .inr ?_
    split
    · exact ⟨rfl, rfl, rfl⟩
    · refine empties _ ?_
      unfold State.crystalLost
      dsimp only
      split
      · exact passes (Standing.crystalOut s) _ _ (abandonFlight_only _)
      · exact passes (Standing.crystalOut s) _ _ (OnlyEnd.refl _)
  · exact .inl ⟨rfl, rfl, rfl, rfl⟩

theorem startExchange_port (s : State) (x : Exchange) (active : Bool) : PortSame s (s.startExchange x active) := by
  have marked : PortSame s (s.markStarted x) := by
    unfold State.markStarted
    split
    · exact ⟨rfl, rfl, rfl, rfl⟩
    · split <;> exact ⟨rfl, rfl, rfl, rfl⟩
    · exact ⟨rfl, rfl, rfl, rfl⟩
  unfold State.startExchange
  generalize s.markStarted x = m at marked ⊢
  refine marked.trans ?_
  unfold State.beginSending
  dsimp only
  split
  · exact ⟨rfl, rfl, rfl, rfl⟩
  · split <;> exact ⟨rfl, rfl, rfl, rfl⟩

theorem tested_port (s : State) (x : Exchange) (u : Upset) (passed : State → State)
    (passes : PortSame s (passed (Standing.reservedFor s x u))) : PortSame s (s.tested x u passed) := by
  have upset := (Standing.upset_only s x u).tables.end.port
  rcases Standing.tested_cases s x u passed with ⟨i, f, -, ends⟩ | ⟨st, f, ends⟩ | ends
  · rw [ends]
    exact upset.trans ((takingFailed_only _ i).end.trans (takeFaultElsewhere_only _ f)).port
  · rw [ends]
    exact upset.trans ((takingLost_only _ st).end.trans (takeFaultElsewhere_only _ f)).port
  · rw [ends]
    exact passes

theorem look_port (s : State) (active : Bool) (u : Upset) : PortSame s (s.look active u) := by
  unfold State.look
  split
  · split
    · exact ⟨rfl, rfl, rfl, rfl⟩
    · rename_i x _
      have upset := (Standing.upset_only s x u).tables.end.port
      refine tested_port s x u _ (PortSame.trans ?_ (startExchange_port _ x active))
      exact ⟨upset.holding, upset.overrun, upset.reply, upset.startUp⟩
  · exact ⟨rfl, rfl, rfl, rfl⟩

end Sys2Proof.Machine
end

/-! ## Every relation at every step -/
section
namespace Sys2Proof.Machine
open Sys2Proof.Safety

namespace Standing
variable {s : State}

theorem intake (h : Standing s) (i : Intake) : Standing { s with intake := i } := { h with }

theorem pending (h : Standing s) (l : List Instr) : Standing { s with pending := l } := { h with }

theorem fineDivider (h : Standing s) (k : Fin 10) : Standing { s with fineDivider := k } := { h with }

theorem setResetPin (h : Standing s) (v : Bool) : Standing { s with resetPin := v } := { h with }

theorem supplyRises (h : Standing s) (below : s.supply = .below) : Standing { s with supply := .delay } := { h with
  held := iff_of_true (h.held.2 fun good => nomatch below.symm.trans good.1) (fun good => nomatch good.1) }

/-- The loop responder writes its answer and, for a CAUSE, a level. -/
theorem formAnswer_only (s : State) (x : Exchange) : s.formAnswer x = { s with
    lines := (s.formAnswer x).lines, wake := (s.formAnswer x).wake, crystal := (s.formAnswer x).crystal
    loopAnswer := (s.formAnswer x).loopAnswer } := by
  unfold State.formAnswer State.loopRoll State.loopCause
  split
  · rfl
  · rename_i l st _ _ _
    split
    · have only := changeLine_only (s.writeLine l { s.lines[l] with
          loopSet := s.lines[l].loopSet &&& ~~~((1 : StationSet) <<< st.val) }) l
        (s.lines[l].loopSet &&& ~~~((1 : StationSet) <<< st.val) != 0)
      unfold OnlyLines at only
      dsimp only
      rw [only]
      rfl
    · rfl
  all_goals rfl

/-- The answer formed, the exchange passes to its next phase. -/
theorem answered (h : Standing s) {x : Exchange} (present : s.exchange = some x) (loop : s.mode = .loopback)
    (p : Phase) : Standing ((s.formAnswer x).toPhase x p) := by
  have only := formAnswer_only s x
  have formed := h.formAnswer x loop
  refine formed.toPhase ?_ p (formed.silent_loopback ?_)
  · rw [only]
    exact present
  · rw [only]
    exact loop

/-- A start-up that meets no crystal: the fault is recorded as the part becomes ready (R158). -/
theorem startTimeout (h : Standing s) (waiting : s.startUp = .waiting) (f : FaultRecord) :
    Standing ({ s with startUp := .done }.takeFault f) := by
  obtain ⟨mode, stopped, -⟩ := h.starting (by rw [waiting]; nofun)
  refine (h.startUpDone waiting).takeFault f ?_ ?_ rfl
  · dsimp only
    rw [stopped]
    nofun
  · dsimp only
    rw [mode]
    nofun

/-- A taking tried behind a loss that it finds itself: the candidate was queued before the loss. -/
theorem testedBehind (h : Standing s) {x : Exchange} (u : Upset) (running : s.monitorRunning = true)
    (starts : s.canStart = true) (offers : s.candidate = some x) :
    Standing (s.findLoss.tested x u (fun _ => s.findLoss)) := by
  obtain ⟨takes, ready⟩ := h.findLoss_takes running starts
  refine h.findLoss.tested takes x u (fun i owner => ?_) h.findLoss
  rw [ready]
  exact offered_queued (candidate_offered offers) i owner

/-- A part held in reset by one of its two conditions is in reset. -/
theorem inReset (h : Standing s) (held : s.supply ≠ .good ∨ s.pinResetHeld = true) : s.startUp = .inReset :=
  h.held.2 fun free => held.elim (fun supply => supply free.1) fun pin => nomatch pin.symm.trans free.2

end Standing

/-! ### The port at the events inside the part -/

namespace PortStanding
variable {s t : State}

theorem findLoss (h : PortStanding s) : PortStanding s.findLoss :=
  (findLoss_port s).elim h.of_same fun empty => of_empty empty ⟨rfl, rfl, rfl, rfl⟩

theorem formAnswer (h : PortStanding s) (x y : Exchange) (p : Phase) :
    PortStanding ((s.formAnswer x).toPhase y p) := by
  refine h.of_same ?_
  rw [Standing.formAnswer_only s x]
  exact ⟨rfl, rfl, rfl, rfl⟩

/-- A part that has not started up holds nothing at its port. -/
theorem emptyStarting (h : PortStanding s) (begins : s.startUp ≠ .done) :
    s.holding = [] ∧ s.overrun = none ∧ s.reply = none := by
  have silent := h.starting begins
  obtain ⟨held, marker⟩ := h.quiet silent
  exact ⟨held, marker, silent⟩

theorem crystalReturns (h : PortStanding s) : PortStanding s.crystalReturns :=
  (h.of_same (t := { s with
    clockSource := .crystal, crystal := .stable, monitorRunning := true, intake := .search })
      ⟨rfl, rfl, rfl, rfl⟩).of_same (retimeFilters_only _).port

theorem leaveDormant (h : PortStanding s) : PortStanding s.leaveDormant := by
  have reported : PortStanding ({ s with mode := .hold, wake := none }.reportMode .dormant .hold .wake s.wake) :=
    h.of_same ⟨rfl, rfl, rfl, rfl⟩
  unfold State.leaveDormant
  exact reported.of_same (softTests_only _).end.port

theorem wakeOnLowSpeed (h : PortStanding s) : PortStanding s.wakeOnLowSpeed := by
  have taken := h.of_same (takeFault_only s (faultOf .crystalLost s.uptime .dormant .stopped none)).end.port
  unfold State.wakeOnLowSpeed
  dsimp only
  split
  · exact taken.leaveDormant
  · exact taken

/-- The reply that entered DORMANT was the last: no frame is held behind it. -/
theorem dormantReplyEnds (h : Standing s) (dormant : s.mode = .dormant) : PortStanding s.dormantReplyEnds := by
  obtain ⟨held, marker⟩ := h.asleep dormant
  have rest : s.holding.tail = [] := List.length_eq_zero_iff.1 (by rw [List.length_tail]; omega)
  have emptied : PortStanding { s with reply := none, holding := s.holding.tail } := empty rest marker rfl
  unfold State.dormantReplyEnds
  dsimp only
  split
  · exact empty rest marker rfl
  · split
    · exact emptied.crystalReturns.leaveDormant
    · exact emptied

theorem endReset (silent : s.holding = [] ∧ s.overrun = none ∧ s.reply = none) : PortStanding s.endReset := by
  obtain ⟨held, marker, reply⟩ := silent
  unfold State.endReset
  split <;> exact empty held marker reply

end PortStanding

/-- Every event keeps every relation. -/
theorem lawful_kept : KeptByEvents (fun s => Standing s ∧ PortStanding s) where
  queue _ l h := ⟨h.1.pending l, h.2.of_same ⟨rfl, rfl, rfl, rfl⟩⟩
  intake _ i h := ⟨h.1.intake i, h.2.of_same ⟨rfl, rfl, rfl, rfl⟩⟩
  frame _ f h := ⟨h.1.frameArrives f, h.2.frameArrives f⟩
  portReplyEnds s r h leaving awake := by
    refine ⟨h.1.portReplyEnds r ?_ awake, h.2.portReplyEnds r leaving⟩
    by_contra begins
    exact nomatch leaving.symm.trans (h.2.starting begins)
  dormantReplyEnds _ h dormant := ⟨h.1.dormantReplyEnds dormant, .dormantReplyEnds h.1 dormant⟩
  commandReset s _ _ := ⟨.commandReset s, .endReset (s := s.beginReset .command) ⟨rfl, rfl, rfl⟩⟩
  silence s h := ⟨h.1.silenceExpires, h.2.of_same (silenceExpires_only s).end.port⟩
  look s active u h := ⟨h.1.look active u, h.2.of_same (look_port s active u)⟩
  loss _ h := ⟨h.1.findLoss, h.2.findLoss⟩
  testedBehind s x u h running starts offers _ :=
    ⟨h.1.testedBehind u running starts offers,
      h.2.findLoss.of_same (tested_port s.findLoss x u _ ⟨rfl, rfl, rfl, rfl⟩)⟩
  clearBehind _ h _ _ running := ⟨h.1.findLoss.clearFault running, h.2.findLoss.of_same ⟨rfl, rfl, rfl, rfl⟩⟩
  lineIdle s x h sending pair _ :=
    ⟨h.1.sendFrame (inPhase_eq_some.1 sending).1 (inPhase_eq_some.1 sending).2 pair false,
      h.2.of_same ⟨rfl, rfl, rfl, rfl⟩⟩
  ends s x o h present notRoll := ⟨h.1.endExchange present notRoll, h.2.of_same (endExchange_only s x o).port⟩
  answerForms _ x h sending loop :=
    ⟨h.1.answered (inPhase_eq_some.1 sending).1 loop _, h.2.formAnswer x x _⟩
  commandLeaves _ x h sending :=
    ⟨h.1.stopLink.toPhase (inPhase_eq_some.1 sending).1 _ rfl, h.2.of_same ⟨rfl, rfl, rfl, rfl⟩⟩
  answerStarts _ x h awaiting := by
    obtain ⟨present, phase⟩ := inPhase_eq_some.1 awaiting
    exact ⟨h.1.toPhase present .receiving (h.1.silent_phase present (by rw [phase]; nofun)),
      h.2.of_same ⟨rfl, rfl, rfl, rfl⟩⟩
  underflow s n h := ⟨h.1.underflow 8 n, h.2.of_same (underflow_only 8 s n).port⟩
  tick _ src h := ⟨h.1.tickBase src, h.2.of_same ⟨rfl, rfl, rfl, rfl⟩⟩
  divider _ k h := ⟨h.1.fineDivider k, h.2.of_same ⟨rfl, rfl, rfl, rfl⟩⟩
  uptime _ k h := ⟨h.1.uptime k, h.2.of_same ⟨rfl, rfl, rfl, rfl⟩⟩
  silenceTick _ h := ⟨h.1.silenceTick, h.2.of_same ⟨rfl, rfl, rfl, rfl⟩⟩
  pin _ l v h := ⟨h.1.pin l v, h.2.of_same ⟨rfl, rfl, rfl, rfl⟩⟩
  filter s l h _ := ⟨h.1.filterTakes l, h.2.of_same (filterTakes_only s l).port⟩
  softTest s l h := ⟨h.1.softTest l, h.2.of_same (softTest_only s l).end.port⟩
  wakeTold s w h := ⟨h.1.tellWake w, h.2.of_same (tellWake_only s w).port⟩
  wakeOnCrystal _ h dormant := ⟨h.1.wakeOnCrystal dormant, h.2.crystalReturns.leaveDormant⟩
  wakeOnLowSpeed _ h dormant := ⟨h.1.wakeOnLowSpeed dormant, h.2.wakeOnLowSpeed⟩
  crystalReturns _ h started _ := ⟨h.1.clockReturns started, h.2.crystalReturns⟩
  startsUp s h waiting := by
    obtain ⟨held, marker, reply⟩ := h.2.emptyStarting (by rw [waiting]; nofun)
    have started : PortStanding { s with startUp := .done } := .empty held marker reply
    exact ⟨(h.1.startUpDone waiting).clockReturns rfl, started.crystalReturns⟩
  startTimeout s h waiting := by
    obtain ⟨held, marker, reply⟩ := h.2.emptyStarting (by rw [waiting]; nofun)
    have started : PortStanding { s with startUp := .done } := .empty held marker reply
    exact ⟨h.1.startTimeout waiting _, started.of_same (takeFault_only _ _).end.port⟩
  powerReset s _ :=
    ⟨.beginReset s .power .below s.pinResetHeld .inReset .off s.portRate (iff_of_true rfl nofun),
      .empty rfl rfl rfl⟩
  supplyRises _ h below := ⟨h.1.supplyRises below, h.2.of_same ⟨rfl, rfl, rfl, rfl⟩⟩
  supplyGood s h delay := by
    have during := h.1.inReset (.inl (by rw [delay]; nofun))
    exact ⟨h.1.endReset .good s.resetPin s.pinResetHeld during,
      .endReset (s := { s with supply := .good }) (h.2.emptyStarting (by rw [during]; nofun))⟩
  pinReset s _ _ :=
    ⟨.beginReset s .pin s.supply true .inReset .off s.portRate (iff_of_true rfl nofun), .empty rfl rfl rfl⟩
  resetPin _ v h := ⟨h.1.setResetPin v, h.2.of_same ⟨rfl, rfl, rfl, rfl⟩⟩
  pinNegated s h held := by
    have during := h.1.inReset (.inr held)
    exact ⟨h.1.endReset s.supply false false during,
      .endReset (s := { s with resetPin := false, pinResetHeld := false })
        (h.2.emptyStarting (by rw [during]; nofun))⟩

end Sys2Proof.Machine

open Sys2Proof.Machine in
/-- Settles O60: the relations of the port apart from those of the rest of the part, kept by every event. -/
theorem stepKeepsEveryRelation : Obligations.StepKeepsEveryRelation := by
  intro s t lawful runs
  exact (lawful_iff t).2 (lawful_kept.step ((lawful_iff s).1 lawful) runs)
end

/-! ## The dispatcher, the exchange record and the reservation (R28, R35, R49) -/
section
namespace Sys2Proof.Machine
open Sys2Proof.Safety

/-- The dispatcher, the exchange record and the reservation fit each other and the mode. -/
structure Dispatched (s : State) : Prop where
  record : s.exchange.isSome ↔ s.dispatcher = .busy
  reserved : s.reserved = if s.dispatcher = .busy then 3 else 0
  carries : s.mode.traffic = true → s.dispatcher ≠ .stopped
  rests : s.mode.traffic = false → s.dispatcher = .busy ∨ s.dispatcher = .stopped

theorem dispatcherLawful_iff (s : State) : DispatcherLawful s ↔ Dispatched s :=
  ⟨fun ⟨record, reserved, carries, rests⟩ => ⟨record, reserved, carries, rests⟩,
    fun h => ⟨h.record, h.reserved, h.carries, h.rests⟩⟩

/-- The fields that the relation speaks of, as they were. -/
structure SameDispatch (s t : State) : Prop where
  exchange : t.exchange = s.exchange
  dispatcher : t.dispatcher = s.dispatcher
  reserved : t.reserved = s.reserved
  mode : t.mode = s.mode

section
variable {s t u : State}

theorem SameDispatch.trans (h : SameDispatch s t) (k : SameDispatch t u) : SameDispatch s u :=
  ⟨k.exchange.trans h.exchange, k.dispatcher.trans h.dispatcher, k.reserved.trans h.reserved, k.mode.trans h.mode⟩

theorem OnlySlots.dispatch (h : OnlySlots s t) : SameDispatch s t := by
  unfold OnlySlots at h
  rw [h]
  exact ⟨rfl, rfl, rfl, rfl⟩

theorem OnlyLines.dispatch (h : OnlyLines s t) : SameDispatch s t := by
  unfold OnlyLines at h
  rw [h]
  exact ⟨rfl, rfl, rfl, rfl⟩

theorem OnlySoft.dispatch (h : OnlySoft s t) : SameDispatch s t := by
  unfold OnlySoft at h
  rw [h]
  exact ⟨rfl, rfl, rfl, rfl⟩

theorem OnlyUnderflow.dispatch (h : OnlyUnderflow s t) : SameDispatch s t := by
  unfold OnlyUnderflow at h
  rw [h]
  exact ⟨rfl, rfl, rfl, rfl⟩

theorem markStarted_dispatch (s : State) (x : Exchange) : SameDispatch s (s.markStarted x) := by
  unfold State.markStarted
  split
  · exact (activateSlot_only s _).dispatch
  · split
    · exact (writeLine_only s _ _).dispatch
    · exact ⟨rfl, rfl, rfl, rfl⟩
  · exact ⟨rfl, rfl, rfl, rfl⟩

theorem beginSending_dispatch (s : State) (x : Exchange) (active : Bool) :
    SameDispatch s (s.beginSending x active) := by
  unfold State.beginSending
  dsimp only
  split
  · exact ⟨rfl, rfl, rfl, rfl⟩
  · split <;> exact ⟨rfl, rfl, rfl, rfl⟩

end

namespace Dispatched
variable {s t : State}

theorem of_same (h : Dispatched s) (same : SameDispatch s t) : Dispatched t where
  record := by rw [same.exchange, same.dispatcher]; exact h.record
  reserved := by rw [same.reserved, same.dispatcher]; exact h.reserved
  carries := by rw [same.mode, same.dispatcher]; exact h.carries
  rests := by rw [same.mode, same.dispatcher]; exact h.rests

/-- Between exchanges: no record, nothing reserved, and the dispatcher as the mode has it. -/
theorem between (absent : s.exchange = none) (unreserved : s.reserved = 0) (idle : s.dispatcher ≠ .busy)
    (carries : s.mode.traffic = true → s.dispatcher ≠ .stopped)
    (rests : s.mode.traffic = false → s.dispatcher = .stopped) : Dispatched s where
  record := by
    rw [absent]
    exact iff_of_false nofun idle
  reserved := by rw [unreserved, if_neg idle]
  carries := carries
  rests still := .inr (rests still)

theorem absent (h : Dispatched s) (idle : s.dispatcher ≠ .busy) : s.exchange = none :=
  Option.not_isSome_iff_eq_none.1 fun present => idle (h.record.1 present)

theorem unreserved (h : Dispatched s) (idle : s.dispatcher ≠ .busy) : s.reserved = 0 := by
  rw [h.reserved, if_neg idle]

/-! ### Modes and faults -/

/-- The dispatcher told of a change of mode (R28). -/
theorem afterMode (h : Dispatched s) (m : Mode) (exchange : t.exchange = s.exchange)
    (reserved : t.reserved = s.reserved) (mode : t.mode = m)
    (dispatcher : t.dispatcher = s.dispatcher.afterMode s.mode m) : Dispatched t := by
  have carries := h.carries
  rw [afterMode_eq] at dispatcher
  by_cases busy : s.dispatcher = .busy
  · rw [if_pos busy] at dispatcher
    refine ⟨?_, ?_, fun _ => by rw [dispatcher]; nofun, fun _ => .inl dispatcher⟩
    · rw [exchange, dispatcher, h.record, busy]
    · rw [reserved, dispatcher, h.reserved, busy]
  · rw [if_neg busy] at dispatcher
    refine between (exchange.trans (h.absent busy)) (reserved.trans (h.unreserved busy)) ?_ ?_ ?_
    · rw [dispatcher]
      split
      · split
        · exact busy
        · split
          · nofun
          · exact busy
      · nofun
    · intro traffic
      rw [mode] at traffic
      rw [dispatcher, if_pos traffic]
      split
      · exact carries ‹_›
      · split
        · nofun
        · assumption
    · intro still
      rw [mode] at still
      rw [dispatcher, still]
      rfl

theorem changeMode (h : Dispatched s) (m : Mode) (c : ModeCause) : Dispatched (s.changeMode m c) := by
  have only := changeMode_only s m c
  unfold OnlyMode at only
  refine h.afterMode m ?_ ?_ (changeMode_mode s m c) (changeMode_dispatcher s m c)
  · rw [only]
  · rw [only]

theorem forceHold (h : Dispatched s) (c : ModeCause) : Dispatched (s.forceHold c) := by
  unfold State.forceHold
  split
  · exact h.changeMode .hold c
  · exact h

theorem silenceExpires (h : Dispatched s) : Dispatched s.silenceExpires := by
  unfold State.silenceExpires
  split
  · exact h.changeMode .hold .hostSilent
  · exact h

theorem completeRequested (h : Dispatched s) : Dispatched s.completeRequested := by
  unfold State.completeRequested
  split
  · exact h
  · exact h.changeMode _ .request

theorem takeFault (h : Dispatched s) (f : FaultRecord) : Dispatched (s.takeFault f) := by
  unfold State.takeFault
  split
  · exact h.of_same ⟨rfl, rfl, rfl, rfl⟩
  · split
    · exact h.of_same ⟨rfl, rfl, rfl, rfl⟩
    · split
      · exact h
      · exact h.afterMode .halted rfl rfl rfl rfl

/-! ### The end of an exchange (R47) -/

/-- Whatever was in flight, its end leaves the three in step. -/
theorem endExchange (s : State) (x : Exchange) (o : Outcome) : Dispatched (s.endExchange x o) := by
  have freed : ∀ v : State, Dispatched (v.release.dispatcherAfter x) := by
    intro v
    have released := (softTests_only { v with reserved := 0, exchange := none, loopAnswer := none }).dispatch
    unfold State.release State.dispatcherAfter
    generalize State.softTests { v with reserved := 0, exchange := none, loopAnswer := none } = u at released
    refine between released.exchange released.reserved ?_ (fun traffic => ?_) (fun still => ?_)
    · dsimp only
      split
      · split <;> nofun
      · nofun
    · dsimp only
      rw [if_pos traffic]
      split <;> nofun
    · dsimp only at still ⊢
      rw [still]
      rfl
  exact (freed _).completeRequested

theorem abandonFlight (h : Dispatched s) : Dispatched s.abandonFlight := by
  unfold State.abandonFlight
  split
  · exact h
  · exact endExchange _ _ _

theorem takeFaultElsewhere (h : Dispatched s) (f : FaultRecord) : Dispatched (s.takeFaultElsewhere f) := by
  unfold State.takeFaultElsewhere
  split
  · exact (h.takeFault f).abandonFlight
  · exact h.takeFault f

/-! ### A taking (R33, R34) -/

/-- A taking cancelled: the tables are written, and the reservation released. -/
theorem cancelled (h : Dispatched s) (idle : s.dispatcher ≠ .busy) (only : OnlyTables s t)
    (released : t.reserved = 0) : Dispatched t := by
  unfold OnlyTables at only
  refine between ?_ released ?_ ?_ (fun still => ?_)
  · rw [only]
    exact h.absent idle
  · rw [only]
    exact idle
  · rw [only]
    exact h.carries
  · rw [only] at still ⊢
    exact (h.rests still).resolve_left idle

theorem tested (h : Dispatched s) (idle : s.dispatcher ≠ .busy) (x : Exchange) (u : Upset)
    {passed : State → State} (passes : Dispatched (passed (Standing.reservedFor s x u))) :
    Dispatched (s.tested x u passed) := by
  have upset := (Standing.upset_only s x u).dispatch
  have stands : (s.upset x u).dispatcher ≠ .busy := by
    rw [upset.dispatcher]
    exact idle
  rcases Standing.tested_cases s x u passed with ⟨i, f, -, ends⟩ | ⟨st, f, ends⟩ | ends
  · rw [ends]
    exact ((h.of_same upset).cancelled stands (takingFailed_only _ i) rfl).takeFaultElsewhere f
  · rw [ends]
    exact ((h.of_same upset).cancelled stands (takingLost_only _ st) rfl).takeFaultElsewhere f
  · rw [ends]
    exact passes

/-- An exchange that starts is the one record, with its 3 entries reserved. -/
theorem startExchange (s : State) (reserved : s.reserved = 3) (x : Exchange) (active : Bool) :
    Dispatched (s.startExchange x active) := by
  have marked := markStarted_dispatch s x
  have begun : Dispatched { s.markStarted x with exchange := some x, dispatcher := .busy } :=
    ⟨iff_of_true rfl rfl, marked.reserved.trans reserved, fun _ => nofun, fun _ => .inl rfl⟩
  exact begun.of_same (beginSending_dispatch _ x active)

theorem canStart_idle (starts : s.canStart = true) : s.dispatcher ≠ .busy := by
  simp only [State.canStart, Bool.and_eq_true, decide_eq_true_eq] at starts
  obtain ⟨⟨-, idle⟩, -⟩ := starts
  rw [idle]
  nofun

theorem look (h : Dispatched s) (active : Bool) (u : Upset) : Dispatched (s.look active u) := by
  unfold State.look
  split
  · split
    · exact h
    · rename_i starts _ x _
      exact h.tested (canStart_idle starts) x u (startExchange _ rfl x active)
  · exact h

/-! ### A crystal loss (R154) -/

theorem crystalLost (h : Dispatched s) : Dispatched s.crystalLost := by
  have out : Dispatched (Standing.crystalOut s) := h.of_same ⟨rfl, rfl, rfl, rfl⟩
  unfold State.crystalLost
  dsimp only
  split
  · exact (out.abandonFlight.takeFaultElsewhere _).forceHold _
  · exact (out.takeFaultElsewhere _).forceHold _

theorem findLoss (h : Dispatched s) : Dispatched s.findLoss := by
  unfold State.findLoss
  split
  · split
    · exact h.of_same ⟨rfl, rfl, rfl, rfl⟩
    · exact h.crystalLost
  · exact h

theorem takeFaultElsewhere_idle (h : Dispatched s) (idle : s.dispatcher ≠ .busy) (f : FaultRecord) :
    (s.takeFaultElsewhere f).dispatcher ≠ .busy := by
  have stands := Standing.takeFault_idle s f idle
  unfold State.takeFaultElsewhere
  split
  · rw [abandonFlight_none _ ((h.takeFault f).absent stands)]
    exact stands
  · exact stands

theorem forceHold_idle (s : State) (idle : s.dispatcher ≠ .busy) (c : ModeCause) :
    (s.forceHold c).dispatcher ≠ .busy := by
  unfold State.forceHold
  split
  · rw [changeMode_dispatcher, afterMode_eq, if_neg idle]
    nofun
  · exact idle

/-- A loss found between exchanges leaves none in flight. -/
theorem findLoss_idle (h : Dispatched s) (idle : s.dispatcher ≠ .busy) : s.findLoss.dispatcher ≠ .busy := by
  have out : Dispatched (Standing.crystalOut s) := h.of_same ⟨rfl, rfl, rfl, rfl⟩
  unfold State.findLoss
  split
  · split
    · exact idle
    · rw [Standing.crystalLost_idle s idle]
      exact forceHold_idle _ (out.takeFaultElsewhere_idle idle _) .clock
  · exact idle

/-! ### Clocks and resets -/

theorem retimeFilters (h : Dispatched s) : Dispatched s.retimeFilters := h.of_same (retimeFilters_only s).dispatch

theorem crystalReturns (h : Dispatched s) : Dispatched s.crystalReturns := by
  have returned : Dispatched { s with
      clockSource := .crystal, crystal := .stable, monitorRunning := true, intake := .search } :=
    h.of_same ⟨rfl, rfl, rfl, rfl⟩
  exact returned.retimeFilters

/-- DORMANT and HOLD both carry no traffic, so the wake leaves the dispatcher as it was. -/
theorem leaveDormant (h : Dispatched s) (dormant : s.mode = .dormant) : Dispatched s.leaveDormant := by
  have still : s.mode.traffic = false := by
    rw [dormant]
    rfl
  have awake : Dispatched ({ s with mode := .hold, wake := none }.reportMode .dormant .hold .wake s.wake) :=
    ⟨h.record, h.reserved, nofun, fun _ => h.rests still⟩
  exact awake.of_same (softTests_only _).dispatch

theorem wakeOnCrystal (h : Dispatched s) (dormant : s.mode = .dormant) : Dispatched s.wakeOnCrystal :=
  h.crystalReturns.leaveDormant ((Standing.crystalReturns_mode s).trans dormant)

theorem wakeOnLowSpeed (h : Dispatched s) : Dispatched s.wakeOnLowSpeed := by
  unfold State.wakeOnLowSpeed
  dsimp only
  split
  · exact (h.takeFault _).leaveDormant ‹_›
  · exact h.takeFault _

theorem dormantReplyEnds (h : Dispatched s) (dormant : s.mode = .dormant) : Dispatched s.dormantReplyEnds := by
  have ended : Dispatched { s with reply := none, holding := s.holding.tail } := h.of_same ⟨rfl, rfl, rfl, rfl⟩
  unfold State.dormantReplyEnds
  dsimp only
  split
  · exact h.of_same ⟨rfl, rfl, rfl, rfl⟩
  · split
    · exact ended.wakeOnCrystal dormant
    · exact ended

theorem beginReset (s : State) (c : ResetCause) : Dispatched (s.beginReset c) :=
  between rfl rfl nofun nofun (fun _ => rfl)

theorem endReset (h : Dispatched s) : Dispatched s.endReset := by
  unfold State.endReset
  split
  · exact h.of_same ⟨rfl, rfl, rfl, rfl⟩
  · exact h

/-! ### Requests (R50, R53, R137, R138, R145) -/

/-- A HELD dispatcher becomes IDLE: it is HELD only in a mode that carries traffic. -/
theorem unheld (h : Dispatched s) (holds : s.dispatcher = .held) (step : Bool) :
    Dispatched { s with stepEnable := step, dispatcher := .idle } := by
  have idle : s.dispatcher ≠ .busy := by
    rw [holds]
    nofun
  refine between (h.absent idle) (h.unreserved idle) nofun (fun _ => nofun) (fun still => ?_)
  rcases h.rests still with other | other
  all_goals
    rw [holds] at other
    cases other

theorem enterDormant (h : Dispatched s) (allowed : s.dormancyAllowed = true) : Dispatched s.enterDormant := by
  simp only [State.dormancyAllowed, Bool.and_eq_true, Bool.or_eq_true, decide_eq_true_eq] at allowed
  obtain ⟨⟨⟨⟨rests, -⟩, -⟩, -⟩, -⟩ := allowed
  have idle : s.dispatcher ≠ .busy := by
    rcases rests with rest | rest <;> rw [rest] <;> nofun
  exact between (h.absent idle) (h.unreserved idle) nofun nofun (fun _ => rfl)

theorem serveSetMode (h : Dispatched s) (code : Byte) : Dispatched (Machine.serveSetMode code s).1 := by
  unfold Machine.serveSetMode
  split
  · exact h
  · rename_i m _
    split
    · exact h
    · rename_i passes
      obtain ⟨-, -, -, -, sleeps⟩ := Standing.modeRefusal_none s m passes
      unfold State.takeMode
      dsimp only [accepted]
      split
      · exact h.enterDormant (sleeps ‹_›).2
      · split
        · exact h.of_same ⟨rfl, rfl, rfl, rfl⟩
        · exact h.changeMode m .request

/-- No request but STEP DISABLE, STEP ADVANCE and SET MODE reaches the dispatcher. -/
theorem serve (h : Dispatched s) (r : Request) : Dispatched (serve r s).1 := by
  cases r with
  | setMode code => exact h.serveSetMode code
  | stepDisable =>
    show Dispatched { s with
      stepEnable := false, dispatcher := if s.dispatcher = .held then .idle else s.dispatcher }
    split
    · exact h.unheld ‹_› false
    · exact h.of_same ⟨rfl, rfl, rfl, rfl⟩
  | stepAdvance =>
    dsimp only [Machine.serve, serveStepAdvance]
    split
    · exact h.unheld ‹_› s.stepEnable
    · exact h
  | start set =>
    dsimp only [Machine.serve, serveStart]
    split
    · exact h
    · split
      · split
        · exact h
        · exact h.of_same (startAll_only _ s).dispatch
      · exact h
  | abortSlot n =>
    dsimp only [Machine.serve, serveAbortSlot]
    split
    · exact h.of_same (abortOne_only s _).dispatch
    · exact h
  | abortAll =>
    dsimp only [Machine.serve, serveAbortAll]
    exact h.of_same (abortAll_only s).dispatch
  | setThreshold k =>
    dsimp only [Machine.serve, serveSetThreshold]
    split
    · dsimp only [accepted]
      split
      · refine Dispatched.of_same ?_ (softTests_only _).dispatch
        exact h.of_same ⟨rfl, rfl, rfl, rfl⟩
      · exact h.of_same ⟨rfl, rfl, rfl, rfl⟩
    · exact h
  | raise level =>
    dsimp only [Machine.serve, serveRaise]
    split
    · exact h
    · exact h.of_same (addOrigin_only s _ _).dispatch
  | setLoopAttention level set cause =>
    dsimp only [Machine.serve, serveSetLoopAttention]
    repeat' split
    · exact h.of_same ((writeLine_only s _ _).dispatch.trans (changeLine_only _ _ _).dispatch)
    all_goals exact h
  | fetch count =>
    dsimp only [Machine.serve, serveFetch]
    split
    · dsimp only
      split
      · exact h.of_same ⟨rfl, rfl, rfl, rfl⟩
      · refine Dispatched.of_same ?_ (softTests_only _).dispatch
        exact h.of_same ⟨rfl, rfl, rfl, rfl⟩
    · exact h
  | writeSettings mask values =>
    dsimp only [Machine.serve, serveWriteSettings]
    split
    · exact h
    · split
      · exact h
      · split
        · exact h
        · dsimp only [accepted, State.settingsWritten]
          split
          · refine Dispatched.retimeFilters ?_
            exact h.of_same ⟨rfl, rfl, rfl, rfl⟩
          · exact h.of_same ⟨rfl, rfl, rfl, rfl⟩
  | stepEnable | readAttention | reset | clearCause | readFault | clearFault | readSettings | identify | status =>
    exact h.of_same ⟨rfl, rfl, rfl, rfl⟩
  | _ =>
    dsimp only [Machine.serve, serveLoadSlot, serveReleaseSlot, serveReadSlot, serveEnroll, serveWithdraw,
      serveRestore, serveSetCauseMask, serveReadStation, serveUnmask, serveSetTimer, serveReadTimers]
    repeat' split
    all_goals exact h.of_same ⟨rfl, rfl, rfl, rfl⟩

theorem judge (h : Dispatched s) (f : Frame) : Dispatched (judge f s).1 := by
  have restarted : Dispatched s.restartSilence := by
    unfold State.restartSilence
    split <;> exact h.of_same ⟨rfl, rfl, rfl, rfl⟩
  unfold Machine.judge
  repeat' split
  · exact h
  · exact restarted
  · exact restarted
  · exact restarted
  · exact restarted.serve _

theorem takeHead (h : Dispatched s) : Dispatched s.takeHead := by
  unfold State.takeHead
  split
  · exact h
  · exact (h.judge _).of_same ⟨rfl, rfl, rfl, rfl⟩

theorem frameArrives (h : Dispatched s) (f : Frame) : Dispatched (s.frameArrives f) := by
  unfold State.frameArrives
  split
  · dsimp only
    split
    · exact h.of_same ⟨rfl, rfl, rfl, rfl⟩
    · split
      · have held : Dispatched { s with intake := .search, holding := s.holding ++ [f] } :=
          h.of_same ⟨rfl, rfl, rfl, rfl⟩
        split
        · exact held.takeHead
        · exact held
      · exact h.of_same ⟨rfl, rfl, rfl, rfl⟩
  · exact h

theorem nextReply (h : Dispatched s) : Dispatched s.nextReply := by
  unfold State.nextReply
  split
  · split
    · exact h
    · exact h.of_same ⟨rfl, rfl, rfl, rfl⟩
  · exact h.takeHead

theorem portReplyEnds (h : Dispatched s) (r : Reply) : Dispatched (s.portReplyEnds r) := by
  unfold State.portReplyEnds
  split
  · refine Dispatched.nextReply ?_
    exact h.of_same ⟨rfl, rfl, rfl, rfl⟩
  · refine Dispatched.nextReply ?_
    exact h.of_same ⟨rfl, rfl, rfl, rfl⟩

/-- The record of an exchange in flight passes to another phase. -/
theorem toPhase (h : Dispatched s) {x : Exchange} {p : Phase} (present : s.inPhase p = some x) (q : Phase)
    (same : SameDispatch s t) : Dispatched (t.toPhase x q) := by
  have busy := h.record.1 (by rw [(inPhase_eq_some.1 present).1]; rfl)
  have after := h.of_same same
  refine ⟨iff_of_true rfl (same.dispatcher.trans busy), after.reserved, after.carries, after.rests⟩

end Dispatched

/-- Every event keeps the dispatcher, the record and the reservation in step. -/
theorem dispatched_kept : KeptByEvents Dispatched where
  queue _ _ h := h.of_same ⟨rfl, rfl, rfl, rfl⟩
  intake _ _ h := h.of_same ⟨rfl, rfl, rfl, rfl⟩
  frame _ f h := h.frameArrives f
  portReplyEnds _ r h _ _ := h.portReplyEnds r
  dormantReplyEnds _ h dormant := h.dormantReplyEnds dormant
  commandReset s _ _ := (Dispatched.beginReset s .command).endReset
  silence _ h := h.silenceExpires
  look _ active u h := h.look active u
  loss _ h := h.findLoss
  testedBehind _ x u h _ starts _ _ :=
    h.findLoss.tested (h.findLoss_idle (Dispatched.canStart_idle starts)) x u h.findLoss
  clearBehind _ h _ _ _ := h.findLoss.of_same ⟨rfl, rfl, rfl, rfl⟩
  lineIdle _ _ h _ _ _ := h.of_same ⟨rfl, rfl, rfl, rfl⟩
  ends s x o _ _ _ := Dispatched.endExchange s x o
  answerForms s x h sending _ := by
    have formed : SameDispatch s (s.formAnswer x) := by
      rw [Standing.formAnswer_only s x]
      exact ⟨rfl, rfl, rfl, rfl⟩
    exact h.toPhase sending _ formed
  commandLeaves _ _ h sending := h.toPhase sending _ ⟨rfl, rfl, rfl, rfl⟩
  answerStarts _ _ h awaiting := h.toPhase awaiting _ ⟨rfl, rfl, rfl, rfl⟩
  underflow s n h := h.of_same (underflow_only 8 s n).dispatch
  tick _ _ h := h.of_same ⟨rfl, rfl, rfl, rfl⟩
  divider _ _ h := h.of_same ⟨rfl, rfl, rfl, rfl⟩
  uptime _ _ h := h.of_same ⟨rfl, rfl, rfl, rfl⟩
  silenceTick _ h := h.of_same ⟨rfl, rfl, rfl, rfl⟩
  pin _ _ _ h := h.of_same ⟨rfl, rfl, rfl, rfl⟩
  filter s l h _ := h.of_same (filterTakes_only s l).dispatch
  softTest s l h := h.of_same (softTest_only s l).dispatch
  wakeTold s w h := h.of_same (tellWake_only s w).dispatch
  wakeOnCrystal _ h dormant := h.wakeOnCrystal dormant
  wakeOnLowSpeed _ h _ := h.wakeOnLowSpeed
  crystalReturns _ h _ _ := h.crystalReturns
  startsUp s h _ := by
    have done : Dispatched { s with startUp := .done } := h.of_same ⟨rfl, rfl, rfl, rfl⟩
    exact done.crystalReturns
  startTimeout s h _ := by
    have done : Dispatched { s with startUp := .done } := h.of_same ⟨rfl, rfl, rfl, rfl⟩
    exact done.takeFault _
  powerReset s _ := (Dispatched.beginReset s .power).of_same ⟨rfl, rfl, rfl, rfl⟩
  supplyRises _ h _ := h.of_same ⟨rfl, rfl, rfl, rfl⟩
  supplyGood s h _ := by
    have good : Dispatched { s with supply := .good } := h.of_same ⟨rfl, rfl, rfl, rfl⟩
    exact good.endReset
  pinReset s _ _ := (Dispatched.beginReset s .pin).of_same ⟨rfl, rfl, rfl, rfl⟩
  resetPin _ _ h := h.of_same ⟨rfl, rfl, rfl, rfl⟩
  pinNegated s h _ := by
    have negated : Dispatched { s with resetPin := false, pinResetHeld := false } :=
      h.of_same ⟨rfl, rfl, rfl, rfl⟩
    exact negated.endReset

end Sys2Proof.Machine

open Sys2Proof.Machine in
/-- Settles O58: every event keeps the dispatcher, the exchange record and the reservation in step, since an end
writes all three and a start is taken between exchanges alone. -/
theorem stepKeepsDispatcherLawful : Obligations.StepKeepsDispatcherLawful := by
  intro s t lawful runs
  exact (dispatcherLawful_iff t).2 (dispatched_kept.step ((dispatcherLawful_iff s).1 lawful) runs)
end

/-! ## The conditions of a start, and the step requests (R30, R50, R53, R161) -/
section
namespace Sys2Proof.Machine
open Sys2Proof.Safety

theorem isSystem_iff (r : Report) :
    r.isSystem = true ↔ ∃ old new cause wake, r.body = .mode old new cause wake := by
  unfold Report.isSystem
  split
  · rename_i old new cause wake body
    exact iff_of_true rfl ⟨old, new, cause, wake, body⟩
  · rename_i other
    refine iff_of_false nofun ?_
    rintro ⟨old, new, cause, wake, body⟩
    exact other old new cause wake body

/-- The first four conditions of R30. -/
theorem canStart_iff (s : State) : s.canStart = true ↔ (s.mode = .run ∨ s.mode = .loopback) ∧
    s.requested = none ∧ s.dispatcher = .idle ∧ s.exchangeOccupied + s.reserved ≤ 25 := by
  simp only [State.canStart, Bool.and_eq_true, decide_eq_true_eq, Option.isNone_iff_eq_none, traffic_iff, and_assoc]

/-- A look that may not start an exchange, or that finds no candidate, changes nothing. -/
theorem look_idle (s : State) (active : Bool) (u : Upset) (h : s.canStart = false ∨ s.candidate = none) :
    s.look active u = s := by
  unfold State.look
  split
  · rename_i starts
    rcases h with barred | empty
    · rw [barred] at starts
      cases starts
    · rw [empty]
  · rfl

/-- A look that may start an exchange takes the candidate offered. -/
theorem look_takes (s : State) (active : Bool) (u : Upset) {x : Exchange} (starts : s.canStart = true)
    (offered : s.candidate = some x) : s.look active u = s.take x active u := by
  rw [State.look, if_pos starts, offered]

end Sys2Proof.Machine

open Sys2Proof Sys2Proof.Machine Sys2Proof.Safety

/-- Settles O24: the classes of reports, the conditions of R30, and a look without them. -/
theorem noExchangeStartsWithoutItsConditions : Obligations.NoExchangeStartsWithoutItsConditions := by
  refine ⟨isSystem_iff, fun s => ⟨?_, ?_⟩, fun s => ⟨canStart_iff s, fun active u idle => ?_⟩⟩
  · exact List.countP_eq_length_filter.symm
  · exact List.countP_eq_length_filter.symm
  · exact congrArg Host.Outcome.next (look_idle s active u idle)

/-- Settles O25: each request reaches the dispatcher as its owner, and STEP ADVANCE is judged by HELD. -/
theorem stepRequestsActOnTheDispatcher : Obligations.StepRequestsActOnTheDispatcher := by
  intro tag s free running
  have answered : ∀ (r : Request) (status : Status) (change : State → State),
      readBody (Request.kind r) (Request.body r) = some r →
      serve r (arrived (requestFrame tag r) s) = (change (arrived (requestFrame tag r) s), status, []) →
      Answered (commandOf tag r) tag r s status [] change := fun r status change read served =>
    answered_of_serve tag r s status [] change free (kind_isRequestKind r) read (.inl running) served
  refine ⟨answered .stepEnable .ok _ rfl rfl, answered .stepDisable .ok _ rfl rfl,
    fun holds => answered .stepAdvance .ok _ rfl ?_, fun other => answered .stepAdvance .notHeld _ rfl ?_⟩
  · exact if_pos holds
  · exact if_neg other
end

/-! ## The events of an exchange on the pair (R37 to R45, R56, R62, R68 to R70) -/
section
namespace Sys2Proof.Machine
open Sys2Proof.Safety

/-- The exchange on the link, on the pair, in a phase. -/
structure OnPair (s : State) (x : Exchange) (p : Phase) : Prop where
  present : s.exchange = some x
  phase : x.phase = p
  pair : s.mode ≠ .loopback

namespace OnPair
variable {s : State} {x : Exchange} {p : Phase}

theorem inPhase (h : OnPair s x p) : s.inPhase p = some x := inPhase_eq_some.2 ⟨h.present, h.phase⟩

/-! ### SENDING (R37, R45) -/

theorem lineBecomesIdle (h : OnPair s x .sending) (tested : s.lde = false) :
    exec .lineBecomesIdle s = .next ({ s with lineActive := false }.sendFrame x) := by
  show execLineBecomesIdle s = _
  rw [execLineBecomesIdle, h.inPhase]
  exact congrArg Host.Outcome.next (if_pos ⟨h.pair, tested⟩)

theorem lineTestExpiry (h : OnPair s x .sending) (tested : s.lde = false) :
    exec .lineTestExpiry s = .next (s.endExchange x .blocked) := by
  show execLineTestExpiry s = _
  rw [execLineTestExpiry, h.inPhase]
  exact congrArg Host.Outcome.next (if_pos ⟨h.pair, tested⟩)

theorem commandSent (h : OnPair s x .sending) (driven : s.lde = true) :
    exec .commandSent s = .next (s.stopLink.toPhase x x.afterSending) := by
  show execCommandSent s = _
  rw [execCommandSent, h.inPhase]
  exact congrArg Host.Outcome.next ((if_neg h.pair).trans (if_pos driven))

/-! ### AWAITING and GAP (R38, R40, R43) -/

theorem replyStart (h : OnPair s x .awaiting) (reply : x.command ≠ .roll) :
    exec .replyStart s = .next (s.toPhase x .receiving) := by
  show execReplyStart s = _
  rw [execReplyStart, h.inPhase]
  exact congrArg Host.Outcome.next (if_pos ⟨reply, fun loop => absurd loop h.pair⟩)

theorem rollCallOpening (h : OnPair s x .awaiting) (roll : x.command = .roll) :
    exec .rollCallOpening s = .next (s.toPhase x .receiving) := by
  show execRollCallOpening s = _
  rw [execRollCallOpening, h.inPhase]
  exact congrArg Host.Outcome.next (if_pos ⟨roll, fun loop => absurd loop h.pair⟩)

theorem replyWindowExpiry (h : OnPair s x .awaiting) :
    exec .replyWindowExpiry s = .next (s.endExchange x x.windowOutcome) := by
  show execReplyWindowExpiry s = _
  rw [execReplyWindowExpiry, h.inPhase]
  exact congrArg Host.Outcome.next (if_pos fun loop => absurd loop h.pair)

theorem broadcastGapExpiry (h : OnPair s x .gap) :
    exec .broadcastGapExpiry s = .next (s.endExchange x .broadcastDone) := by
  show execBroadcastGapExpiry s = _
  rw [execBroadcastGapExpiry, h.inPhase]

/-! ### RECEIVING (R39, R42, R62, R69, R70) -/

theorem replyComplete (h : OnPair s x .receiving) (reply : x.command ≠ .roll) (characters : List Character)
    (o : Outcome) (fixes : classifyCharacters x characters = some o) :
    exec (.replyComplete characters) s = .next (s.endExchange x o) := by
  show execReplyComplete characters s = _
  rw [execReplyComplete, h.inPhase]
  dsimp only
  rw [if_neg reply, if_neg h.pair, fixes]

theorem replyBreaks (h : OnPair s x .receiving) (reply : x.command ≠ .roll) :
    s.replyBreaks = s.endExchange x .garbled := by
  have receiving : s.receivingReply = some x := by
    rw [State.receivingReply, h.inPhase]
    exact if_pos ⟨reply, h.pair⟩
  rw [State.replyBreaks, receiving]

theorem replyNoStartMark (h : OnPair s x .receiving) (reply : x.command ≠ .roll) (c : Character)
    (other : characterByte c ≠ 0xC3) : exec (.replyNoStartMark c) s = .next (s.endExchange x .garbled) := by
  rw [← h.replyBreaks reply]
  exact congrArg Host.Outcome.next (if_neg fun mark => other mark.2)

theorem replyLengthAbove16 (h : OnPair s x .receiving) (reply : x.command ≠ .roll) (c : Character)
    (long : 16 < (characterByte c &&& 0x7F).toNat) :
    exec (.replyLengthAbove16 c) s = .next (s.endExchange x .garbled) := by
  rw [← h.replyBreaks reply]
  exact congrArg Host.Outcome.next (if_neg fun short => Nat.not_lt.2 short.2 long)

theorem receivingRoll (h : OnPair s x .receiving) (roll : x.command = .roll) : s.receivingRoll = some x := by
  rw [State.receivingRoll, h.inPhase]
  exact if_pos roll

/-- On the pair the samples alone fix a roll call's outcome. -/
theorem rollEnds (h : OnPair s x p) (values checks : RollSamples) :
    s.rollEnds values checks = rollOutcome values checks := by
  unfold State.rollEnds
  split
  · exact absurd ‹_› h.pair
  · rfl

theorem rollCallComplete (h : OnPair s x .receiving) (roll : x.command = .roll) (values checks : RollSamples) :
    exec (.rollCallComplete values checks) s = .next (s.endExchange x (rollOutcome values checks)) := by
  show execRollCallComplete values checks s = _
  rw [execRollCallComplete, h.receivingRoll roll]
  exact congrArg (fun o => Host.Outcome.next (s.endExchange x o)) (h.rollEnds values checks)

theorem rollCallBroken (h : OnPair s x .receiving) (roll : x.command = .roll) (values checks : RollSamples)
    (period : Fin 63) (breaks : firstBreak checks = some period) :
    exec (.rollCallBroken period values checks) s = .next (s.endExchange x (rollOutcome values checks)) := by
  show execRollCallBroken period values checks s = _
  rw [execRollCallBroken, h.receivingRoll roll]
  refine congrArg Host.Outcome.next (if_pos ⟨h.pair, ?_⟩)
  rw [breaks]
  exact decide_eq_true (Fin.le_refl period)

end OnPair

/-! ### Roll-call words (R43, R69, R70) -/

/-- Slot n of a word in the opposite order is slot 30 - n of the word. -/
theorem mirrored_bit (w : StationSet) (n : Fin 31) : (mirrored w).getLsbD n.val = w.getLsbD (30 - n.val) := by
  rw [mirrored, BitVec.getLsbD_reverse, BitVec.getMsbD, decide_eq_true n.isLt, Bool.true_and]

theorem rollVerdict_consistent (presence mirror : StationSet) : rollVerdict presence mirror = .consistent ↔
    ∀ n : Fin 31, presence.getLsbD n.val = mirror.getLsbD (30 - n.val) := by
  have agree : rollVerdict presence mirror = .consistent ↔ presence = mirrored mirror := by
    unfold rollVerdict
    split
    · exact iff_of_true rfl ‹_›
    · exact iff_of_false nofun ‹_›
  rw [agree]
  constructor
  · intro same n
    rw [same, mirrored_bit]
  · intro same
    refine BitVec.eq_of_getLsbD_eq fun k inside => ?_
    rw [mirrored_bit mirror ⟨k, inside⟩, same ⟨k, inside⟩]

theorem rollVerdict_mismatch (presence mirror : StationSet) (h : rollVerdict presence mirror ≠ .consistent) :
    rollVerdict presence mirror = .mismatch := by
  unfold rollVerdict at h ⊢
  split
  · exact absurd (if_pos ‹_›) h
  · rfl

/-- The first k slots of a word stand, the rest are negated. -/
theorem firstSlots_bit (w : StationSet) (k : Nat) (n : Fin 31) :
    (firstSlots w k).getLsbD n.val = (w.getLsbD n.val && decide (n.val < k)) := by
  rw [firstSlots, BitVec.getLsbD_and, BitVec.getLsbD_ofNat, Nat.testBit_two_pow_sub_one, decide_eq_true n.isLt,
    Bool.true_and]

end Sys2Proof.Machine

open Sys2Proof Sys2Proof.Machine Sys2Proof.Safety

/-- Settles O28: one event at a time, each in its phase on the pair. -/
theorem awaitingAndGapMoveOn : Obligations.AwaitingAndGapMoveOn := by
  intro s x present pair
  refine ⟨fun phase reply => ?_, fun phase roll => ?_, fun phase => ?_⟩
  · have awaiting : OnPair s x .awaiting := ⟨present, phase, pair⟩
    have silent : x.windowOutcome = .silent := if_neg reply
    exact ⟨awaiting.replyStart reply, silent ▸ awaiting.replyWindowExpiry⟩
  · have awaiting : OnPair s x .awaiting := ⟨present, phase, pair⟩
    have empty : x.windowOutcome = .rollResult .consistent 0 0 := if_pos roll
    exact ⟨awaiting.rollCallOpening roll, empty ▸ awaiting.replyWindowExpiry⟩
  · exact OnPair.broadcastGapExpiry ⟨present, phase, pair⟩

/-- Settles O29: the characters of a reply, its four breaks, and the samples of a roll call. -/
theorem receivingFixesTheOutcome : Obligations.ReceivingFixesTheOutcome := by
  intro s x present phase pair
  have receiving : OnPair s x .receiving := ⟨present, phase, pair⟩
  refine ⟨fun reply => ⟨fun bytes rest o fixes => ?_, fun bytes c rest incomplete error => ?_, ?_, ?_,
    receiving.replyNoStartMark reply, receiving.replyLengthAbove16 reply⟩, fun roll values checks => ?_⟩
  · exact receiving.replyComplete reply _ o (classifyCharacters_whole x bytes rest o fixes)
  · exact receiving.replyComplete reply _ _ (classifyCharacters_broken x bytes c rest incomplete error)
  · exact congrArg Host.Outcome.next (receiving.replyBreaks reply)
  · exact congrArg Host.Outcome.next (receiving.replyBreaks reply)
  · refine ⟨fun released => ?_, fun period breaks => ?_⟩
    · rw [receiving.rollCallComplete roll, rollOutcome_released values checks released]
    · rw [receiving.rollCallBroken roll values checks period breaks, receiving.rollCallComplete roll,
        rollOutcome_broken values checks period breaks]
      exact ⟨rfl, rfl⟩

/-- Settles O32: bit by bit, the words, the break, the verdict and the slots of a broken roll call. -/
theorem rollCallWordsAreCompared : Obligations.RollCallWordsAreCompared := by
  refine ⟨fun values n => ⟨presenceWord_bit values n, mirrorWord_bit values n⟩,
    fun checks => ⟨firstBreak_eq_none checks, firstBreak_eq_some checks⟩,
    fun presence mirror => ⟨rollVerdict_consistent presence mirror, rollVerdict_mismatch presence mirror⟩,
    fun period presence mirror n => ⟨?_, ?_⟩⟩
  · have before : n.val < min 31 (period.val - 1) ↔ n.val + 1 < period.val := by omega
    simp only [brokenWords, firstSlots_bit, before]
  · have before : n.val < period.val - 32 ↔ n.val + 32 < period.val := by omega
    simp only [brokenWords, firstSlots_bit, before]
end

/-! ## Frames on the pair (R42, R54, R56, R57, R59, TABLE 11-7) -/
section
namespace Sys2Proof.Machine
open Sys2Proof.Safety

/-! ### The CRC-16 and its two bytes (R59) -/

/-- The part's CRC-16 is the one taken bit by bit. -/
theorem crc16_eq (bytes : List Byte) : crc16 bytes = linkCrc bytes := by
  have from_register : ∀ r : Half, bytes.foldl (fun r b => eightTimes crc16Bit (r ^^^ (b ++ (0 : Byte)))) r =
      crcOf 0x1021 r bytes := by
    induction bytes with
    | nil => intro r; rfl
    | cons b rest ih =>
      intro r
      rw [List.foldl_cons, crc16_byte, ih, ← crcOf_cons]
  exact from_register 0xFFFF

theorem hiByte_eq (w : Half) : hiByte w = byte (w.toNat / 256) := by
  refine BitVec.eq_of_toNat_eq ?_
  simp [hiByte, byte, Nat.shiftRight_eq_div_pow]

theorem loByte_eq (w : Half) : loByte w = byte w.toNat := by
  refine BitVec.eq_of_toNat_eq ?_
  simp [loByte, byte]

theorem crcBytes_eq (bytes : List Byte) : crcBytes bytes = [hiByte (crc16 bytes), loByte (crc16 bytes)] := by
  rw [crcBytes, hiByte_eq, loByte_eq, crc16_eq]

theorem half_crc (w : Half) : half (loByte w) (hiByte w) = w := by
  rw [half, hiByte, loByte]
  exact BitVec.extractLsb'_append_extractLsb'_eq_extractLsb' (x := w) (by decide) |>.trans (by simp)

/-! ### The two bytes before the payload -/

/-- A field of 5 bits and a field of 3 bits in one byte. -/
theorem addressByte (a : Address) (k : Fin 8) : byte a.val ||| (byte k.val <<< 5) = byte (a.val + 32 * k.val) := by
  revert a k; decide

theorem addressByte_address (a : Address) (status : Fin 4) :
    ((byte a.val ||| (byte status.val <<< 5)) &&& 0x1F).toNat = a.val := by
  revert a status; decide

theorem addressByte_status (a : Address) (status : Fin 4) :
    ((byte a.val ||| (byte status.val <<< 5)) >>> 5) &&& 3 = byte status.val := by
  revert a status; decide

/-- The toggle and a length of up to 16 in one byte. -/
theorem lengthByte (toggle : Bool) {n : Nat} (short : n ≤ 16) :
    flagBit toggle 7 ||| byte n = byte (n + if toggle then 128 else 0) ∧
      (flagBit toggle 7 ||| byte n).msb = toggle ∧ lengthField (flagBit toggle 7 ||| byte n) = n := by
  have each : ∀ (toggle : Bool) (n : Fin 17), flagBit toggle 7 ||| byte n.val = byte (n.val + if toggle then 128 else 0) ∧
      (flagBit toggle 7 ||| byte n.val).msb = toggle ∧ lengthField (flagBit toggle 7 ||| byte n.val) = n.val := by decide
  exact each toggle ⟨n, Nat.lt_succ_of_le short⟩

/-! ### Command frames (R57) -/

theorem linkCode_small (c : LinkCommand) : ∃ k : Fin 8, c.code = byte k.val ∧ c.code.toNat = k.val := by
  cases c
  · exact ⟨1, rfl, rfl⟩
  · exact ⟨2, rfl, rfl⟩
  · exact ⟨3, rfl, rfl⟩
  · exact ⟨4, rfl, rfl⟩
  · exact ⟨5, rfl, rfl⟩
  · exact ⟨6, rfl, rfl⟩
  · exact ⟨7, rfl, rfl⟩

theorem commandFrame_eq (a : Address) (c : LinkCommand) (toggle : Bool) (payload : List Byte)
    (short : payload.length ≤ 16) : commandFrame a c toggle payload =
      0xC3 :: byte (a.val + 32 * c.code.toNat) :: byte (payload.length + if toggle then 128 else 0) ::
        (payload ++ crcBytes (byte (a.val + 32 * c.code.toNat) ::
          byte (payload.length + if toggle then 128 else 0) :: payload)) := by
  obtain ⟨k, code, number⟩ := linkCode_small c
  rw [commandFrame, (lengthByte toggle short).1, number, code, addressByte, crcBytes_eq]
  rfl

theorem commandFrame_length (a : Address) (c : LinkCommand) (toggle : Bool) (payload : List Byte) :
    (commandFrame a c toggle payload).length = 5 + payload.length := by
  simp only [commandFrame, List.length_cons, List.length_append, List.length_nil]
  omega

/-! ### Reply frames (R42) -/

/-- A whole frame is classified by its fields. -/
theorem classifyReply_whole (x : Exchange) (b1 b2 hi lo : Byte) (payload : List Byte)
    (announced : lengthField b2 = payload.length) (short : payload.length ≤ 16) :
    classifyReply x (0xC3 :: b1 :: b2 :: (payload ++ [hi, lo])) =
      some (classifyFrame x b1 b2 payload (hi ++ lo)) := by
  have fits : ¬ 16 < payload.length := Nat.not_lt.2 short
  simp [classifyReply, startMark, announced, fits, half]

/-- The outcome that tests 4 and 5 of R42 fix for a status, for a frame whose CRC and echoes are right. -/
def statusOutcome (status : Fin 4) (c : LinkCommand) (payload : List Byte) : Outcome :=
  if status = 3 then .garbled
  else if payloadFits (byte status.val) c payload = false then .garbled
  else if status = 1 then .nak (payload.headD 0)
  else if status = 2 then .busy
  else .ack payload

theorem classifyFrame_good (x : Exchange) (a : Address) (status : Fin 4) (toggle : Bool) (payload : List Byte)
    (short : payload.length ≤ 16) :
    classifyFrame x (byte a.val ||| (byte status.val <<< 5)) (flagBit toggle 7 ||| byte payload.length) payload
        (crc16 ((byte a.val ||| (byte status.val <<< 5)) :: (flagBit toggle 7 ||| byte payload.length) :: payload)) =
      if a ≠ x.station ∨ toggle ≠ x.toggle then .echoMismatch else statusOutcome status x.command payload := by
  have codes : ∀ k : Fin 4, byte status.val = byte k.val ↔ status = k := by revert status; decide
  have third : byte status.val = 3 ↔ status = 3 := codes 3
  have first : byte status.val = 1 ↔ status = 1 := codes 1
  have second : byte status.val = 2 ↔ status = 2 := codes 2
  unfold classifyFrame statusOutcome
  dsimp only
  rw [addressByte_status, addressByte_address, (lengthByte toggle short).2.1, if_neg (not_not_intro rfl)]
  by_cases address : a = x.station
  · by_cases echo : toggle = x.toggle
    · simp only [address, echo, ne_eq, not_true_eq_false, if_false, or_self, third, first, second,
        Bool.not_eq_true]
    · simp only [address, echo, ne_eq, not_true_eq_false, if_false, not_false_eq_true, or_true, if_true]
  · have other : a.val ≠ x.station.val := fun same => address (Fin.ext same)
    simp only [address, other, ne_eq, not_false_eq_true, true_or, if_true]

/-- A station's frame is read by its echoes and then by its status. -/
theorem classifyReply_replyFrame (x : Exchange) (a : Address) (status : Fin 4) (toggle : Bool)
    (payload : List Byte) (short : payload.length ≤ 16) : classifyReply x (replyFrame a status toggle payload) =
      some (if a ≠ x.station ∨ toggle ≠ x.toggle then .echoMismatch
        else statusOutcome status x.command payload) := by
  rw [← classifyFrame_good x a status toggle payload short, replyFrame, crcBytes_eq]
  refine (classifyReply_whole x _ _ _ _ payload (lengthByte toggle short).2.2 short).trans ?_
  exact congrArg (fun w => some (classifyFrame x _ _ payload w)) (half_crc _)

/-- The status decides where both echoes are right. -/
theorem classifyReply_echoed (x : Exchange) (status : Fin 4) (payload : List Byte) (short : payload.length ≤ 16) :
    classifyReply x (replyFrame x.station status x.toggle payload) =
      some (statusOutcome status x.command payload) := by
  rw [classifyReply_replyFrame x x.station status x.toggle payload short, if_neg]
  simp

/-- The table of test 5 for an ACK of at most 16 bytes. -/
def FitsAck (c : LinkCommand) (payload : List Byte) : Prop :=
  (c = .probe ∧ payload.length = 2) ∨
    (c = .cause ∧ 1 ≤ payload.length ∧ payload.length ≤ 9 ∧ ∀ b ∈ payload.head?, b.toNat ≤ 15) ∨
    c = .read ∨ c = .write ∨ c = .control

theorem payloadFits_ack (c : LinkCommand) (payload : List Byte) (short : payload.length ≤ 16) :
    payloadFits 0 c payload = true ↔ FitsAck c payload := by
  unfold payloadFits FitsAck
  rw [if_neg (by decide), if_neg (by decide)]
  cases c with
  | probe => simp
  | cause =>
    cases payload with
    | nil => simp
    | cons b detail => simp [and_comm, Nat.lt_succ_iff]
  | read | write | control => simpa using short
  | sync | roll => simp

theorem statusOutcome_ack {c : LinkCommand} {payload : List Byte} (fits : payloadFits 0 c payload = true) :
    statusOutcome 0 c payload = .ack payload := by
  unfold statusOutcome
  rw [if_neg (by decide), if_neg (by rw [show byte (0 : Fin 4).val = 0 from rfl, fits]; nofun), if_neg (by decide),
    if_neg (by decide)]

theorem statusOutcome_ack_garbled {c : LinkCommand} {payload : List Byte}
    (misfits : ¬ payloadFits 0 c payload = true) : statusOutcome 0 c payload = .garbled := by
  unfold statusOutcome
  rw [if_neg (by decide)]
  exact if_pos (Bool.eq_false_of_not_eq_true misfits)

theorem statusOutcome_nak (c : LinkCommand) (payload : List Byte) : statusOutcome 1 c payload =
    if payload.length = 1 then .nak (payload.headD 0) else .garbled := by
  by_cases one : payload.length = 1
  · simp [statusOutcome, payloadFits, byte, one]
  · simp [statusOutcome, payloadFits, byte, one]

theorem statusOutcome_busy (c : LinkCommand) (payload : List Byte) : statusOutcome 2 c payload =
    if payload = [] then .busy else .garbled := by
  cases payload with
  | nil => rfl
  | cons b rest => simp [statusOutcome, payloadFits, byte]

end Sys2Proof.Machine

open Sys2Proof Sys2Proof.Machine Sys2Proof.Safety

/-- Settles O26: the frame byte by byte, its levels bit by bit, and the three events of SENDING. -/
theorem sendingEndsInSentOrBlocked : Obligations.SendingEndsInSentOrBlocked := by
  refine ⟨rfl, fun a c toggle payload short => ⟨commandFrame_eq a c toggle payload short,
    commandFrame_length a c toggle payload⟩, fun b => rfl, fun b bytes => ⟨rfl, rfl⟩,
    fun s x present phase pair => ?_⟩
  have sending : OnPair s x .sending := ⟨present, phase, pair⟩
  exact ⟨fun tested => ⟨sending.lineBecomesIdle tested, sending.lineTestExpiry tested⟩, sending.commandSent⟩

/-- Settles O31: a station's frame by its status and echoes, and any frame by a CRC that does not agree. -/
theorem replyFramesAreClassified : Obligations.ReplyFramesAreClassified := by
  intro x payload short fitsAck
  have read := fun status => classifyReply_echoed x status payload short
  refine ⟨fun fits => ?_, fun misfits => ?_, fun reason one => ?_, fun other => ?_, fun empty => ?_,
    fun nonempty => ?_, read 3, fun a status toggle wrong => ?_, fun b1 b2 hi lo announced crc => ?_⟩
  · rw [read, statusOutcome_ack ((payloadFits_ack x.command payload short).2 fits)]
  · rw [read, statusOutcome_ack_garbled fun fits => misfits ((payloadFits_ack x.command payload short).1 fits)]
  · rw [read, statusOutcome_nak, one]
    rfl
  · rw [read, statusOutcome_nak, if_neg other]
  · rw [read, statusOutcome_busy, if_pos empty]
  · rw [read, statusOutcome_busy, if_neg nonempty]
  · rw [classifyReply_replyFrame x a status toggle payload short, if_pos wrong]
  · rw [classifyReply_whole x b1 b2 hi lo payload announced short, classifyFrame, if_pos]
    rw [crc16_eq]
    exact crc
end

/-! ## A taking whose check codes agree (R15, R33 to R35, R37, R101) -/
section
namespace Sys2Proof.Machine
open Sys2Proof.Safety

theorem nextToggle_station (s : State) (st : StationId) :
    s.nextToggle (stationAddress st) = s.stations[st].toggle := by
  rw [State.nextToggle, station?_address]

/-- Both tests of R33 pass where the codes of the candidate's slot and station agree. -/
theorem tested_passes (s : State) (x : Exchange) (passed : State → State)
    (slot : ∀ i, x.slot = some i → s.slots[i].codeAgrees = true)
    (station : ∀ st, x.station = stationAddress st → s.stations[st].codeAgrees = true) :
    s.tested x .none passed = passed { s with reserved := 3 } := by
  have goodSlot : State.badSlot { s with reserved := 3 } x = none := by
    unfold State.badSlot
    split
    · rfl
    · exact if_pos (slot _ ‹_›)
  have goodStation : State.badStation { s with reserved := 3 } x = none := by
    unfold State.badStation
    split
    · rfl
    · exact if_pos (station _ (address_of_station? _ _ ‹_›))
  unfold State.tested State.upset
  dsimp only
  rw [goodSlot, goodStation]

/-- TAKE_CANDIDATE on a candidate whose codes agree. -/
theorem takeCandidate_starts (s : State) (active : Bool) {x : Exchange} (starts : s.canStart = true)
    (offered : s.candidate = some x) (slot : ∀ i, x.slot = some i → s.slots[i].codeAgrees = true)
    (station : ∀ st, x.station = stationAddress st → s.stations[st].codeAgrees = true) :
    exec (.takeCandidate active (.alone .none)) s =
      .next (State.startExchange { s with reserved := 3 } x active) := by
  show Host.Outcome.next (s.look active .none) = _
  rw [look_takes s active .none starts offered, State.take, tested_passes s x _ slot station]

/-- The line test at a start (R37): nothing in LOOPBACK, a wait on an active pair, the frame on an idle one. -/
theorem beginSending_eq (t : State) (x : Exchange) (active : Bool) : t.beginSending x active =
    if t.mode = .loopback then t
    else if active then { t with lineActive := true }
    else { t with
      lineActive := false, lde := true
      linkFrame := some (lineLevels (commandFrame x.station x.command x.toggle x.payload)) } := by
  unfold State.beginSending
  cases active <;> rfl

/-- The slot of a start, where its code agrees already. -/
theorem activateSlot_eq (s : State) (i : SlotId) (agrees : s.slots[i].codeAgrees = true) : s.activateSlot i = { s with
    ready := s.ready.erase i
    slots := s.slots.set i { s.slots[i] with state := .active, attempts := s.slots[i].attempts + 1 } } := by
  unfold State.activateSlot State.leaveQueue State.writeSlot
  dsimp only
  rw [← agrees]

/-- The level of a start: one that is PENDING goes to ROLL (R101). -/
theorem markStarted_roll (s : State) (x : Exchange) (l : LineId) (kind : x.kind = .roll)
    (level : x.level = some l) : s.markStarted x = { s with
      lines := if s.lines[l].state = .pending then
          s.lines.set l { s.lines[l] with state := .roll, rollAttempt := false, unionUsed := false }
        else s.lines } := by
  simp only [State.markStarted, kind, level]
  split <;> rfl

end Sys2Proof.Machine

open Sys2Proof Sys2Proof.Machine Sys2Proof.Safety

/-- Settles O22: the records of the candidates, and a start by what it tells each owner. -/
theorem takingStartsTheExchange : Obligations.TakingStartsTheExchange := by
  refine ⟨rfl, ?_⟩
  intro s slot roll cause probe
  refine ⟨nextToggle_station s, rfl, fun i => rfl, fun l => rfl, fun l st => rfl, fun st => rfl, ?_⟩
  intro starts active sends
  have begins : ∀ (x : Exchange) (t : State), t.mode = s.mode → t.beginSending x active = sends x t :=
    fun x t mode => by
      dsimp only [sends]
      rw [← mode]
      exact beginSending_eq t x active
  clear_value sends
  refine ⟨fun i offered agrees station => ?_, fun l offered => ?_, fun st x read offered agrees => ?_⟩
  · have marked : State.markStarted { s with reserved := 3 } (slot i) =
        State.activateSlot { s with reserved := 3 } i := rfl
    rw [takeCandidate_starts s active starts offered (fun j same => Option.some.inj same ▸ agrees) station,
      State.startExchange, marked, activateSlot_eq { s with reserved := 3 } i agrees]
    exact congrArg Host.Outcome.next (begins (slot i) _ rfl)
  · rw [takeCandidate_starts s active starts offered nofun
        (fun st same => absurd same.symm (stationAddress_ne_broadcast st)),
      State.startExchange, markStarted_roll { s with reserved := 3 } (roll l) l rfl rfl]
    exact congrArg Host.Outcome.next (begins (roll l) _ rfl)
  · obtain ⟨owner, address, marked⟩ : x.slot = none ∧ x.station = stationAddress st ∧
        State.markStarted { s with reserved := 3 } x = { s with reserved := 3 } := by
      rcases read with rfl | ⟨l, rfl⟩ <;> exact ⟨rfl, rfl, rfl⟩
    have good : ∀ k, x.station = stationAddress k → s.stations[k].codeAgrees = true := fun k same =>
      stationAddress_inj (address.symm.trans same) ▸ agrees
    rw [takeCandidate_starts s active starts offered (fun i same => nomatch owner.symm.trans same) good,
      State.startExchange, marked]
    exact congrArg Host.Outcome.next (begins x _ rfl)
end

/-! ## The end of an exchange, step by step (R45, R47, R52, R112, R140, R144, R165) -/
section
namespace Sys2Proof.Machine
open Sys2Proof.Safety

/-! ### Reports that an end queues -/

/-- The reports stand, with further ones of the exchange class behind them. -/
def TellsMore (s t : State) : Prop :=
  ∃ more : List Report, t.reports = s.reports ++ more ∧ ∀ r ∈ more, r.isSystem = false

namespace TellsMore
variable {s t u : State}

theorem same (reports : t.reports = s.reports) : TellsMore s t :=
  ⟨[], by rw [reports, List.append_nil], fun _ mem => absurd mem List.not_mem_nil⟩

theorem queued {r : Report} (reports : t.reports = s.reports ++ [r]) (told : r.isSystem = false) : TellsMore s t :=
  ⟨[r], reports, fun _ mem => List.mem_singleton.1 mem ▸ told⟩

theorem trans (h : TellsMore s t) (k : TellsMore t u) : TellsMore s u := by
  obtain ⟨first, before, told⟩ := h
  obtain ⟨second, after, toldNext⟩ := k
  refine ⟨first ++ second, by rw [after, before, List.append_assoc], fun r mem => ?_⟩
  exact (List.mem_append.1 mem).elim (told r) (toldNext r)

theorem mem (h : TellsMore s t) {r : Report} (queued : r ∈ s.reports) : r ∈ t.reports := by
  obtain ⟨more, reports, -⟩ := h
  rw [reports]
  exact List.mem_append_left more queued

/-- The MODE reports are those that were. -/
theorem system (h : TellsMore s t) : t.reports.filter Report.isSystem = s.reports.filter Report.isSystem := by
  obtain ⟨more, reports, told⟩ := h
  have none_added : more.filter Report.isSystem = [] := by
    refine List.filter_eq_nil_iff.2 fun r mem => ?_
    rw [told r mem]
    nofun
  rw [reports, List.filter_append, none_added, List.append_nil]

end TellsMore

theorem loseStation_tells (s : State) (st : StationId) (reason : StationReason) (old : Option StationState)
    (own : Option SlotId) : TellsMore s (s.loseStation st reason old own) := by
  refine ⟨s.lossReports st reason old own, loseStation_reports s st reason old own, fun r mem => ?_⟩
  unfold State.lossReports at mem
  rcases List.mem_cons.1 mem with rfl | listed
  · rfl
  · split at listed
    · cases listed
    · rw [List.mem_singleton.1 listed]
      rfl

/-- An entry written LOST, and its loss. -/
theorem lostEntry_tells (s : State) (st : StationId) (e : Station) (reason : StationReason)
    (old : Option StationState) (own : Option SlotId) :
    TellsMore s ((s.writeStation st e).loseStation st reason old own) := by
  have written : TellsMore s (s.writeStation st e) := .same rfl
  exact written.trans (loseStation_tells _ st reason old own)

theorem scoreEnd_tells (s : State) (st : StationId) (own : Option SlotId) (o : Outcome) :
    TellsMore s (s.scoreEnd st own o) := by
  unfold State.scoreEnd
  dsimp only
  split
  · exact .same rfl
  · split
    · exact lostEntry_tells _ _ _ _ _ _
    · exact .queued rfl rfl

theorem probeEnd_tells (s : State) (st : StationId) (o : Outcome) : TellsMore s (s.probeEnd st o) := by
  have fails : TellsMore s (s.probeFails st) := by
    unfold State.probeFails
    dsimp only
    split
    · exact .same rfl
    · exact lostEntry_tells _ _ _ _ _ _
  cases o with
  | ack payload => exact .queued rfl rfl
  | nak | silent | garbled | echoMismatch => exact fails
  | _ => exact .same rfl

theorem stationTakes_tells (s : State) (x : Exchange) (o : Outcome) : TellsMore s (s.stationTakes x o) := by
  unfold State.stationTakes
  split
  · exact .same rfl
  · split
    · exact .same rfl
    · split
      · exact scoreEnd_tells _ _ _ _
      · exact scoreEnd_tells _ _ _ _
      · exact probeEnd_tells _ _ _
      · exact .same rfl

theorem slotEnd_tells (s : State) (i : SlotId) (o : Outcome) : TellsMore s (s.slotEnd i o) := by
  have completion : ∀ (t : State) (r : Slot) (report : Bool),
      t.reports = (if report then s.reports ++ [⟨s.uptime, completionBody i r⟩] else s.reports) →
      TellsMore s t := by
    intro t r report reports
    cases report
    · exact .same reports
    · exact .queued reports rfl
  rcases roll_or_not o with ⟨v, p, m, rfl⟩ | notRoll
  · exact .same rfl
  · have ends := slotEnd_cases s i o notRoll
    generalize s.slotEnd i o = t at ends ⊢
    cases ends with
    | ended r report => exact completion _ r report rfl
    | repeats p => exact completion _ _ _ rfl
    | retried n => exact .same rfl

theorem rollEnd_tells (s : State) (l : LineId) (o : Outcome) : TellsMore s (s.rollEnd l o) := by
  have ends : ∀ set union, TellsMore s (s.endRoll l set union) := by
    intro set union
    unfold State.endRoll
    dsimp only
    split
    · exact .queued rfl rfl
    · exact .same rfl
  have fails : ∀ p m, TellsMore s (s.rollFails l p m) := by
    intro p m
    unfold State.rollFails
    split
    · exact ends _ _
    · exact .same rfl
  unfold State.rollEnd
  split
  · exact ends _ _
  · exact fails _ _
  · exact fails _ _
  all_goals exact .same rfl

theorem causeAck_tells (s : State) (l : LineId) (st : StationId) (payload : List Byte) :
    TellsMore s (s.causeAck l st payload) := by
  unfold State.causeAck
  dsimp only
  split
  · split
    · exact .queued rfl rfl
    · exact .queued rfl rfl
  · split
    · exact .same rfl
    · exact .same rfl

theorem readFails_tells (s : State) (l : LineId) (st : StationId) (o : Outcome) :
    TellsMore s (s.readFails l st o) := by
  unfold State.readFails
  split
  · exact .queued rfl rfl
  · exact .same rfl

theorem causeEnd_tells (s : State) (l : LineId) (st : StationId) (o : Outcome) :
    TellsMore s (s.causeEnd l st o) := by
  unfold State.causeEnd
  split
  · cases o with
    | ack payload => exact causeAck_tells s l st payload
    | busy | silent | garbled | echoMismatch => exact readFails_tells s l st _
    | _ => exact .same rfl
  · exact .same rfl

theorem ownerTakes_tells (s : State) (x : Exchange) (o : Outcome) : TellsMore s (s.ownerTakes x o) := by
  unfold State.ownerTakes
  split
  · exact slotEnd_tells _ _ _
  · exact rollEnd_tells _ _ _
  · exact causeEnd_tells _ _ _ _
  · exact .same rfl

theorem softTests_tells (s : State) : TellsMore s s.softTests := by
  have each : ∀ (t : State) (l : SoftId), TellsMore t (t.softTest l) := by
    intro t l
    unfold State.softTest
    split
    · exact .queued rfl rfl
    · exact .same rfl
  exact ((each s 2).trans (each _ 1)).trans (each _ 0)

/-! ### Steps 1 and 2 of R47: the tables take the outcome -/

/-- The state in which the station table and the owner have taken the outcome. -/
def State.tablesTold (s : State) (x : Exchange) (o : Outcome) : State := (s.stopLink.stationTakes x o).ownerTakes x o

theorem tablesTold_only (s : State) (x : Exchange) (o : Outcome) : OnlyTables s.stopLink (s.tablesTold x o) :=
  (stationTakes_only s.stopLink x o).trans (ownerTakes_only _ x o)

theorem tablesTold_tells (s : State) (x : Exchange) (o : Outcome) : TellsMore s (s.tablesTold x o) := by
  have released : TellsMore s s.stopLink := .same rfl
  exact released.trans ((stationTakes_tells s.stopLink x o).trans (ownerTakes_tells _ x o))

/-- What the tables leave of the part at an exchange's end, the pair released. -/
structure Untold (s t : State) : Prop where
  mode : t.mode = s.mode
  requested : t.requested = s.requested
  silence : t.silence = s.silence
  fault : t.fault = s.fault
  timers : t.timers = s.timers
  uptime : t.uptime = s.uptime
  lde : t.lde = false
  linkFrame : t.linkFrame = none

theorem tablesTold_untold (s : State) (x : Exchange) (o : Outcome) : Untold s (s.tablesTold x o) := by
  have only := tablesTold_only s x o
  unfold OnlyTables at only
  rw [only]
  exact ⟨rfl, rfl, rfl, rfl, rfl, rfl, rfl, rfl⟩

/-! ### Step 3: a BLOCKED end -/

theorem linkStuck_other (s : State) (x : Exchange) {o : Outcome} (other : o ≠ .blocked) : s.linkStuck x o = s :=
  if_neg other

theorem linkStuck_blocked (s : State) (x : Exchange) : s.linkStuck x .blocked =
    (s.takeFault (faultOf .linkStuck s.uptime s.mode .busy (some x))).forceHold .link := if_pos rfl

/-- A forced HOLD leaves every mode but RUN and LOOPBACK. -/
theorem forceHold_stands (s : State) (c : ModeCause) (still : s.mode.traffic = false) : s.forceHold c = s :=
  if_neg (by rw [still]; nofun)

/-- A stuck line drives nothing on the pair, and leaves the uptime. -/
theorem linkStuck_silent (s : State) (x : Exchange) (o : Outcome) (lde : s.lde = false)
    (linkFrame : s.linkFrame = none) : (s.linkStuck x o).lde = false ∧ (s.linkStuck x o).linkFrame = none ∧
      (s.linkStuck x o).uptime = s.uptime := by
  have faulted : ∀ f, (s.takeFault f).lde = false ∧ (s.takeFault f).linkFrame = none ∧
      (s.takeFault f).uptime = s.uptime := by
    intro f
    unfold State.takeFault
    split
    · exact ⟨lde, linkFrame, rfl⟩
    · split
      · exact ⟨lde, linkFrame, rfl⟩
      · split
        · exact ⟨lde, linkFrame, rfl⟩
        · exact ⟨rfl, rfl, rfl⟩
  unfold State.linkStuck
  split
  · have only := forceHold_only (s.takeFault (faultOf .linkStuck s.uptime s.mode .busy (some x))) .link
    unfold OnlyMode at only
    rw [only]
    exact faulted _
  · exact ⟨lde, linkFrame, rfl⟩

/-- A mode is requested behind step 3 only where it was before. -/
theorem linkStuck_unasked (s : State) (x : Exchange) (o : Outcome) (unasked : s.requested = none) :
    (s.linkStuck x o).requested = none := by
  cases asked : (s.linkStuck x o).requested with
  | none => rfl
  | some m => exact nomatch unasked.symm.trans (linkStuck_requested x o s asked).1

/-! ### Steps 4 to 6: the STEP report, the release and the dispatcher -/

/-- The state of an exchange's end after step 6. -/
def State.freed (x : Exchange) (o : Outcome) (v : State) : State := ((v.stepReport x o).release).dispatcherAfter x

/-- What steps 4 to 6 leave and what they write. -/
structure Freed (x : Exchange) (o : Outcome) (v t : State) : Prop where
  mode : t.mode = v.mode
  requested : t.requested = v.requested
  silence : t.silence = v.silence
  fault : t.fault = v.fault
  timers : t.timers = v.timers
  uptime : t.uptime = v.uptime
  lde : t.lde = v.lde
  linkFrame : t.linkFrame = v.linkFrame
  exchange : t.exchange = none
  reserved : t.reserved = 0
  loopAnswer : t.loopAnswer = none
  dispatcher : t.dispatcher = if v.mode = .run ∨ v.mode = .loopback then
    (if x.stepPending then .held else .idle) else .stopped
  told : TellsMore v t
  stepped : x.stepPending = true →
    (⟨v.uptime, .step x.kind x.slot x.level x.station o.bare⟩ : Report) ∈ t.reports

theorem stepReport_eq (v : State) (x : Exchange) (o : Outcome) : v.stepReport x o =
    if x.stepPending then { v with
      reports := v.reports ++ [⟨v.uptime, .step x.kind x.slot x.level x.station o.bare⟩]
      reserved := v.reserved - 1 }
    else v := rfl

theorem stepReport_plain (v : State) (x : Exchange) (o : Outcome) (plain : x.stepPending = false) :
    v.stepReport x o = v := if_neg (by rw [plain]; nofun)

theorem dispatcherAfter_plain (v : State) (x : Exchange) {m : Mode} (plain : x.stepPending = false)
    (mode : v.mode = m) : v.dispatcherAfter x = { v with
      dispatcher := if m = .run ∨ m = .loopback then .idle else .stopped } := by
  subst mode
  simp only [State.dispatcherAfter, plain, traffic_iff, Bool.false_eq_true, if_false]

theorem freed_leaves (x : Exchange) (o : Outcome) (v : State) : Freed x o v (v.freed x o) := by
  have steps : ∃ reports reserved, v.stepReport x o = { v with reports := reports, reserved := reserved } ∧
      TellsMore v { v with reports := reports, reserved := reserved } ∧ (x.stepPending = true →
        (⟨v.uptime, .step x.kind x.slot x.level x.station o.bare⟩ : Report) ∈ reports) := by
    rw [stepReport_eq]
    split
    · exact ⟨_, _, rfl, .queued rfl rfl, fun _ => List.mem_append_right _ (List.mem_singleton.2 rfl)⟩
    · rename_i plain
      exact ⟨v.reports, v.reserved, rfl, .same rfl, fun steps => absurd steps plain⟩
  obtain ⟨reports, reserved, step, told, stepped⟩ := steps
  have only := softTests_only
    { v with reports := reports, reserved := 0, exchange := none, loopAnswer := none }
  have tells := softTests_tells
    { v with reports := reports, reserved := 0, exchange := none, loopAnswer := none }
  unfold State.freed State.release
  rw [step]
  generalize State.softTests { v with reports := reports, reserved := 0, exchange := none, loopAnswer := none } = w
    at only tells ⊢
  have more : TellsMore v (w.dispatcherAfter x) := TellsMore.trans told tells
  have queued := fun steps => tells.mem (stepped steps)
  have dispatcher : w.mode = v.mode → (w.dispatcherAfter x).dispatcher =
      if v.mode = .run ∨ v.mode = .loopback then (if x.stepPending then .held else .idle) else .stopped := by
    intro mode
    simp only [State.dispatcherAfter, mode, traffic_iff]
  unfold OnlySoft at only
  refine ⟨?_, ?_, ?_, ?_, ?_, ?_, ?_, ?_, ?_, ?_, ?_, dispatcher (by rw [only]), more, queued⟩
  all_goals
    rw [only]
    rfl

/-! ### Step 7 -/

theorem completeRequested_none (t : State) (unasked : t.requested = none) : t.completeRequested = t := by
  unfold State.completeRequested
  rw [unasked]

theorem completeRequested_some (t : State) {m : Mode} (asked : t.requested = some m) :
    t.completeRequested = t.changeMode m .request := by
  unfold State.completeRequested
  rw [asked]

/-- The end of an exchange, by the three groups of its steps. -/
theorem endExchange_steps (s : State) (x : Exchange) (o : Outcome) :
    s.endExchange x o = (((s.tablesTold x o).linkStuck x o).freed x o).completeRequested := rfl

/-- With no requested mode the end is that of step 6. -/
theorem endExchange_unasked (s : State) (x : Exchange) (o : Outcome) (unasked : s.requested = none) :
    s.endExchange x o = ((s.tablesTold x o).linkStuck x o).freed x o := by
  have untold := tablesTold_untold s x o
  have still := linkStuck_unasked (s.tablesTold x o) x o (untold.requested.trans unasked)
  exact completeRequested_none _ ((freed_leaves x o _).requested.trans still)

/-! ### Faults at an end -/

theorem forceHold_eq (s : State) (c : ModeCause) : s.forceHold c =
    if s.mode = .run ∨ s.mode = .loopback then s.changeMode .hold c else s := by
  simp only [State.forceHold, traffic_iff]

/-- A second fault halts the part, with the dispatcher told. -/
theorem takeFault_second (s : State) (f r : FaultRecord) (filled : s.fault = some r) (fresh : r.retained = false)
    (first : r.second = none) : s.takeFault f = { s with
      mode := .halted, requested := none, silence := none, lde := false, linkFrame := none
      dispatcher := if s.dispatcher = .busy then .busy else .stopped
      timers := mapAll (fun r : Timer => { r with due := false }) s.timers
      fault := some { r with second := some f.kind } } := by
  rw [takeFault_halts s f r filled fresh first, State.enterHalted, afterMode_eq]
  rfl

theorem bare_other (o : Outcome) (notAck : ∀ payload, o ≠ .ack payload) (notRoll : ∀ v p m, o ≠ .rollResult v p m) :
    o.bare = o := by
  cases o with
  | ack payload => exact absurd rfl (notAck payload)
  | rollResult v p m => exact absurd rfl (notRoll v p m)
  | _ => rfl

end Sys2Proof.Machine

open Sys2Proof Sys2Proof.Machine Sys2Proof.Safety

/-- Settles O33: what a STEP report keeps, a forced HOLD and a fault by their cases, the steps of R47 as the model
takes them, and with no requested mode the fields that those steps write. -/
theorem exchangeEndLeavesTheDispatcherFree : Obligations.ExchangeEndLeavesTheDispatcherFree := by
  refine ⟨⟨fun _ => rfl, fun _ _ _ => rfl, bare_other⟩, forceHold_eq, fun s f => ⟨takeFault_fills s f,
    fun r filled fresh => ⟨fun third => ?_, takeFault_second s f r filled fresh⟩⟩, ?_, ?_⟩
  · exact takeFault_third s f r filled fresh (Option.isSome_iff_ne_none.2 third)
  · intro s x o owned stuck stepped released free
    have steps : s.endExchange x o = (released.dispatcherAfter x).completeRequested := rfl
    clear_value released
    have told : released.dispatcherAfter x = free := by
      simp only [State.dispatcherAfter, traffic_iff, free]
    have asked : free.requested = released.requested := rfl
    rw [steps, told]
    clear_value free
    cases request : released.requested with
    | none => exact completeRequested_none free (asked.trans request)
    | some m => exact completeRequested_some free (asked.trans request)
  · intro s x o unasked t
    have untold := tablesTold_untold s x o
    obtain ⟨lde, linkFrame, uptime⟩ := linkStuck_silent (s.tablesTold x o) x o untold.lde untold.linkFrame
    have still := linkStuck_unasked (s.tablesTold x o) x o (untold.requested.trans unasked)
    have leaves := freed_leaves x o ((s.tablesTold x o).linkStuck x o)
    rw [← endExchange_unasked s x o unasked] at leaves
    refine ⟨leaves.exchange, leaves.reserved, leaves.loopAnswer, leaves.lde.trans lde,
      leaves.linkFrame.trans linkFrame, leaves.requested.trans still, fun steps => ?_, fun other => ?_,
      fun other plain => ?_⟩
    · have queued := leaves.stepped steps
      rw [uptime, untold.uptime] at queued
      exact queued
    · rw [linkStuck_other _ x other] at leaves
      have dispatcher := leaves.dispatcher
      rw [untold.mode] at dispatcher
      exact ⟨leaves.mode.trans untold.mode, leaves.fault.trans untold.fault, leaves.silence.trans untold.silence,
        leaves.timers.trans untold.timers, dispatcher⟩
    · intro owned
      have told : s.tablesTold x o = owned := rfl
      clear_value owned
      have mode : (State.softTests { owned with reserved := 0, exchange := none, loopAnswer := none }).mode =
          s.mode := (softTests_mode _).trans (told ▸ untold.mode)
      show s.endExchange x o = _
      rw [endExchange_unasked s x o unasked, linkStuck_other _ x other, told, State.freed, stepReport_plain _ x o plain]
      exact dispatcherAfter_plain _ x plain mode
end

/-! ## A BLOCKED end (R45, R144, R165) -/
section
namespace Sys2Proof.Machine
open Sys2Proof.Safety

/-- With the record empty or retained the LINK_STUCK fault fills it, and HOLD is forced. -/
theorem linkStuck_fills (z : State) (x : Exchange) (room : z.fault.all FaultRecord.retained = true) :
    z.linkStuck x .blocked = State.forceHold
      { z with fault := some (faultOf .linkStuck z.uptime z.mode .busy (some x)) } .link := by
  rw [linkStuck_blocked, takeFault_fills z _ room]

/-- Behind a fault not retained the part halts, and HALTED forces no HOLD. -/
theorem linkStuck_halts (z : State) (x : Exchange) {r : FaultRecord} (filled : z.fault = some r)
    (fresh : r.retained = false) (first : r.second = none) : z.linkStuck x .blocked = { z with
      mode := .halted, requested := none, silence := none, lde := false, linkFrame := none
      dispatcher := if z.dispatcher = .busy then .busy else .stopped
      timers := mapAll (fun r : Timer => { r with due := false }) z.timers
      fault := some { r with second := some .linkStuck } } := by
  rw [linkStuck_blocked, takeFault_second z _ r filled fresh first, forceHold_stands _ _ rfl]
  rfl

theorem completeRequested_fault (t : State) : t.completeRequested.fault = t.fault := by
  have only := completeRequested_only t
  unfold OnlyMode at only
  rw [only]

/-- Outside RUN and LOOPBACK the end leaves the dispatcher STOPPED. -/
theorem Freed.stopped {x : Exchange} {o : Outcome} {v t : State} (h : Freed x o v t)
    (still : v.mode.traffic = false) : t.dispatcher = .stopped := by
  have notTraffic : ¬(v.mode = .run ∨ v.mode = .loopback) := by
    rw [← traffic_iff, still]
    nofun
  rw [h.dispatcher, if_neg notTraffic]

/-- A BLOCKED end behind a fault not retained, in whatever mode. -/
theorem blockedEnd_halts (s : State) (x : Exchange) {r : FaultRecord} (filled : s.fault = some r)
    (fresh : r.retained = false) (first : r.second = none) :
    (s.endExchange x .blocked).mode = .halted ∧ (s.endExchange x .blocked).dispatcher = .stopped ∧
      (s.endExchange x .blocked).requested = none ∧ (s.endExchange x .blocked).silence = none ∧
      (s.endExchange x .blocked).fault = some { r with second := some .linkStuck } ∧
      (s.endExchange x .blocked).reports.filter Report.isSystem = s.reports.filter Report.isSystem := by
  have untold := tablesTold_untold s x .blocked
  have tables := tablesTold_tells s x .blocked
  have halts := linkStuck_halts (s.tablesTold x .blocked) x (untold.fault.trans filled) fresh first
  rw [endExchange_steps, halts]
  generalize s.tablesTold x .blocked = z at tables
  have leaves := freed_leaves x .blocked { z with
      mode := .halted, requested := none, silence := none, lde := false, linkFrame := none
      dispatcher := if z.dispatcher = .busy then .busy else .stopped
      timers := mapAll (fun r : Timer => { r with due := false }) z.timers
      fault := some { r with second := some .linkStuck } }
  rw [completeRequested_none _ leaves.requested]
  exact ⟨leaves.mode, leaves.stopped rfl, leaves.requested, leaves.silence, leaves.fault,
    leaves.told.system.trans tables.system⟩

/-- The fault record of a stuck line, with the particulars of its exchange. -/
def stuckRecord (s : State) (x : Exchange) : FaultRecord := faultOf .linkStuck s.uptime s.mode .busy (some x)

theorem linkStuck_recorded (s : State) (x : Exchange) (room : s.fault.all FaultRecord.retained = true) :
    (s.tablesTold x .blocked).linkStuck x .blocked =
      State.forceHold { s.tablesTold x .blocked with fault := some (stuckRecord s x) } .link := by
  have untold := tablesTold_untold s x .blocked
  have record : faultOf .linkStuck (s.tablesTold x .blocked).uptime (s.tablesTold x .blocked).mode .busy (some x) =
      stuckRecord s x := by rw [untold.uptime, untold.mode, stuckRecord]
  rw [linkStuck_fills _ x (by rw [untold.fault]; exact room), record]

/-- In HOLD the fault is recorded, and no mode is forced. -/
theorem blockedEnd_hold (s : State) (x : Exchange) (hold : s.mode = .hold)
    (room : s.fault.all FaultRecord.retained = true) :
    ∃ w : State, s.endExchange x .blocked = w.completeRequested ∧ w.fault = some (stuckRecord s x) ∧ w.mode = .hold ∧
      w.dispatcher = .stopped ∧ w.requested = s.requested ∧ w.silence = s.silence ∧ w.uptime = s.uptime ∧
      w.reports.filter Report.isSystem = s.reports.filter Report.isSystem := by
  have untold := tablesTold_untold s x .blocked
  have tables := tablesTold_tells s x .blocked
  have stuck := linkStuck_recorded s x room
  have mode := untold.mode.trans hold
  rw [endExchange_steps, stuck]
  generalize s.tablesTold x .blocked = z at untold tables mode
  have still : State.forceHold { z with fault := some (stuckRecord s x) } .link =
      { z with fault := some (stuckRecord s x) } := forceHold_stands _ _ (by dsimp only; rw [mode]; rfl)
  rw [still]
  have leaves := freed_leaves x .blocked { z with fault := some (stuckRecord s x) }
  exact ⟨_, rfl, leaves.fault, leaves.mode.trans mode, leaves.stopped (by dsimp only; rw [mode]; rfl),
    leaves.requested.trans untold.requested, leaves.silence.trans untold.silence, leaves.uptime.trans untold.uptime,
    leaves.told.system.trans tables.system⟩

/-- In RUN the fault is recorded and HOLD forced, with any requested mode cleared. -/
theorem blockedEnd_run (s : State) (x : Exchange) (run : s.mode = .run)
    (room : s.fault.all FaultRecord.retained = true) :
    (s.endExchange x .blocked).mode = .hold ∧ (s.endExchange x .blocked).dispatcher = .stopped ∧
      (s.endExchange x .blocked).requested = none ∧ (s.endExchange x .blocked).silence = none ∧
      (⟨s.uptime, .mode .run .hold .link none⟩ : Report) ∈ (s.endExchange x .blocked).reports ∧
      (s.endExchange x .blocked).fault = some (stuckRecord s x) := by
  have untold := tablesTold_untold s x .blocked
  have stuck := linkStuck_recorded s x room
  have mode := untold.mode.trans run
  rw [endExchange_steps, stuck]
  generalize s.tablesTold x .blocked = z at untold mode
  have forced : State.forceHold { z with fault := some (stuckRecord s x) } .link =
      State.changeMode { z with fault := some (stuckRecord s x) } .hold .link := by
    rw [forceHold_eq, if_pos (.inl mode)]
  have only := changeMode_only { z with fault := some (stuckRecord s x) } .hold .link
  have changed := changeMode_mode { z with fault := some (stuckRecord s x) } .hold .link
  have unasked := changeMode_requested { z with fault := some (stuckRecord s x) } .hold .link
  have silence := changeMode_silence { z with fault := some (stuckRecord s x) } .hold .link
  have reports := changeMode_reports { z with fault := some (stuckRecord s x) } .hold .link
  rw [forced]
  generalize State.changeMode { z with fault := some (stuckRecord s x) } .hold .link = v at *
  have fault : v.fault = some (stuckRecord s x) := by
    unfold OnlyMode at only
    rw [only]
  have leaves := freed_leaves x .blocked v
  rw [completeRequested_none _ (leaves.requested.trans unasked)]
  refine ⟨leaves.mode.trans changed, leaves.stopped (by rw [changed]; rfl), leaves.requested.trans unasked,
    leaves.silence.trans silence, leaves.told.mem ?_, leaves.fault.trans fault⟩
  rw [reports, untold.uptime]
  refine List.mem_append_right _ (List.mem_singleton.2 ?_)
  rw [← mode]

end Sys2Proof.Machine

open Sys2Proof Sys2Proof.Machine Sys2Proof.Safety

/-- Settles O34: the end in HOLD with and without a requested mode, the end in RUN, and in either the second
fault that halts the part. -/
theorem blockedEndForcesHoldOrHalts : Obligations.BlockedEndForcesHoldOrHalts := by
  refine ⟨?_, ?_⟩
  · intro s x hold t stuck
    refine ⟨fun room => ?_, fun r filled fresh first => blockedEnd_halts s x filled fresh first⟩
    have record : stuckRecord s x = stuck := by
      rw [stuckRecord, hold]
      rfl
    obtain ⟨w, ends, fault, mode, dispatcher, requested, silence, uptime, system⟩ := blockedEnd_hold s x hold room
    have ended : t = w.completeRequested := ends
    clear_value t
    subst ended
    refine ⟨by rw [completeRequested_fault, fault, record], fun unasked => ?_, fun m asked => ?_⟩
    · rw [completeRequested_none w (requested.trans unasked)]
      exact ⟨mode, dispatcher, requested.trans unasked, silence, system⟩
    · rw [completeRequested_some w (requested.trans asked)]
      refine ⟨changeMode_mode w m .request, changeMode_requested w m .request, ?_⟩
      rw [changeMode_reports, List.filter_append, system, uptime, mode]
      rfl
  · intro s x run t
    refine ⟨fun room => ?_, fun r filled fresh first => ?_⟩
    · have record : stuckRecord s x = faultOf .linkStuck s.uptime .run .busy (some x) := by rw [stuckRecord, run]
      have ends := blockedEnd_run s x run room
      rw [record] at ends
      exact ends
    · obtain ⟨mode, dispatcher, requested, silence, fault, -⟩ := blockedEnd_halts s x filled fresh first
      exact ⟨mode, dispatcher, requested, silence, fault⟩
end

/-! ## The loop responder in LOOPBACK (R64, R72 to R74, TABLE 3-7) -/
section
namespace Sys2Proof.Machine
open Sys2Proof.Safety

/-! ### The phase after SENDING (TABLE 2-5) -/

theorem afterSending_roll (x : Exchange) (roll : x.command = .roll) : x.afterSending = .awaiting :=
  if_neg fun broadcast => broadcast.2 roll

theorem afterSending_station (x : Exchange) {st : StationId} (station : x.station = stationAddress st) :
    x.afterSending = .awaiting :=
  if_neg fun broadcast => stationAddress_ne_broadcast st (station.symm.trans broadcast.1)

theorem afterSending_broadcast (x : Exchange) (broadcast : x.station = 31) (other : x.command ≠ .roll) :
    x.afterSending = .gap :=
  if_pos ⟨broadcast, other⟩

/-! ### The answer formed (R73, R74) -/

/-- A READ, WRITE or CONTROL to a station is answered with its own payload. -/
theorem formAnswer_echo (s : State) (x : Exchange) {st : StationId} (station : x.station = stationAddress st)
    (command : x.command = .read ∨ x.command = .write ∨ x.command = .control) :
    s.formAnswer x = { s with loopAnswer := some (.ack x.payload) } := by
  rw [State.formAnswer, station, station?_address]
  rcases command with read | write | control
  · rw [read]
  · rw [write]
  · rw [control]

/-- A broadcast that is no ROLL has no answer. -/
theorem formAnswer_broadcast (s : State) (x : Exchange) (broadcast : x.station = 31)
    (command : x.command = .write ∨ x.command = .control ∨ x.command = .sync) :
    s.formAnswer x = { s with loopAnswer := none } := by
  have unaddressed : Address.station? 31 = none := rfl
  rw [State.formAnswer, broadcast, unaddressed]
  rcases command with write | control | sync
  · rw [write]
  · rw [control]
  · rw [sync]

theorem formAnswer_roll (s : State) (x : Exchange) {l : LineId} (roll : x.command = .roll)
    (level : x.level = some l) : s.formAnswer x = s.loopRoll l := by
  rw [State.formAnswer, roll, level]

theorem formAnswer_cause (s : State) (x : Exchange) {l : LineId} {st : StationId} (cause : x.command = .cause)
    (level : x.level = some l) (station : x.station = stationAddress st) : s.formAnswer x = s.loopCause l st := by
  rw [State.formAnswer, cause, level, station, station?_address]

/-! ### A CAUSE at a level's loop set (R74) -/

/-- A filtered line that is asserted can only stand or fall, which wakes nothing. -/
theorem changeLine_asserted (s : State) (l : LineId) (v : Bool) (asserted : s.lines[l].filtered = true) :
    s.changeLine l v = s.writeLine l (s.lines[l].takeLine v) := by
  have unasserting : (v && !s.lines[l].filtered && s.wakeEnable l) = false := by
    rw [asserted, Bool.not_true, Bool.and_false, Bool.false_and]
  exact if_neg (ne_true_of_eq_false unasserting)

theorem loopCause_absent (s : State) (l : LineId) (st : StationId)
    (absent : s.lines[l].loopSet.getLsbD st.val = false) :
    s.loopCause l st = { s with loopAnswer := some (.nak 1) } := by
  rw [State.loopCause, absent]
  rfl

/-- The station leaves the set, and the level's line falls with its last one. -/
theorem loopCause_present (s : State) (l : LineId) (st : StationId) {set : StationSet}
    (present : s.lines[l].loopSet.getLsbD st.val = true) (asserted : s.lines[l].filtered = true)
    (rest : set = s.lines[l].loopSet &&& ~~~((1 : StationSet) <<< st.val)) :
    s.loopCause l st = { s with
      lines := s.lines.set l (Line.takeLine { s.lines[l] with loopSet := set } (set != 0))
      loopAnswer := some (.ack [byte s.lines[l].loopCause.val]) } := by
  subst rest
  have written := lines_set_same s.lines l { s.lines[l] with
    loopSet := s.lines[l].loopSet &&& ~~~((1 : StationSet) <<< st.val) }
  rw [State.loopCause, if_pos present]
  dsimp only
  rw [changeLine_asserted]
  · simp only [State.writeLine, written, Vector.set_set]
  · rw [writeLine_lines, written]
    exact asserted

/-! ### The events of an exchange in LOOPBACK (R72) -/

/-- The exchange on the link, with the loop responder, in a phase. -/
structure OnLoop (s : State) (x : Exchange) (p : Phase) : Prop where
  present : s.exchange = some x
  phase : x.phase = p
  loop : s.mode = .loopback

namespace OnLoop
variable {s : State} {x : Exchange} {p : Phase}

theorem inPhase (h : OnLoop s x p) : s.inPhase p = some x := inPhase_eq_some.2 ⟨h.present, h.phase⟩

theorem commandSent (h : OnLoop s x .sending) :
    exec .commandSent s = .next ((s.formAnswer x).toPhase x x.afterSending) := by
  show execCommandSent s = _
  rw [execCommandSent, h.inPhase]
  exact congrArg Host.Outcome.next (if_pos h.loop)

theorem replyStart (h : OnLoop s x .awaiting) (reply : x.command ≠ .roll) (replies : s.loopReplies = true) :
    exec .replyStart s = .next (s.toPhase x .receiving) := by
  show execReplyStart s = _
  rw [execReplyStart, h.inPhase]
  exact congrArg Host.Outcome.next (if_pos ⟨reply, fun _ => replies⟩)

theorem rollCallOpening (h : OnLoop s x .awaiting) (roll : x.command = .roll) (opens : s.loopOpens = true) :
    exec .rollCallOpening s = .next (s.toPhase x .receiving) := by
  show execRollCallOpening s = _
  rw [execRollCallOpening, h.inPhase]
  exact congrArg Host.Outcome.next (if_pos ⟨roll, fun _ => opens⟩)

theorem replyWindowExpiry (h : OnLoop s x .awaiting) (roll : x.command = .roll) (empty : s.loopAnswer = none) :
    exec .replyWindowExpiry s = .next (s.endExchange x (.rollResult .consistent 0 0)) := by
  have outcome : x.windowOutcome = .rollResult .consistent 0 0 := if_pos roll
  show execReplyWindowExpiry s = _
  rw [execReplyWindowExpiry, h.inPhase, ← outcome]
  exact congrArg Host.Outcome.next (if_pos fun _ => ⟨empty, roll⟩)

/-- The characters of the event are not read: the responder's answer is the outcome. -/
theorem replyComplete (h : OnLoop s x .receiving) (reply : x.command ≠ .roll) {a : LoopAnswer} {o : Outcome}
    (formed : s.loopAnswer = some a) (fixes : a.outcome? = some o) (characters : List Character) :
    exec (.replyComplete characters) s = .next (s.endExchange x o) := by
  show execReplyComplete characters s = _
  rw [execReplyComplete, h.inPhase]
  dsimp only
  rw [if_neg reply, if_pos h.loop, formed, Option.bind_some, fixes]

/-- The samples of the event are not read: the responder's two words are compared. -/
theorem rollCallComplete (h : OnLoop s x .receiving) (roll : x.command = .roll) {presence mirror : StationSet}
    (formed : s.loopAnswer = some (.roll presence mirror)) (values checks : RollSamples) :
    exec (.rollCallComplete values checks) s =
      .next (s.endExchange x (.rollResult (rollVerdict presence mirror) presence mirror)) := by
  have receiving : s.receivingRoll = some x := by
    rw [State.receivingRoll, h.inPhase]
    exact if_pos roll
  show execRollCallComplete values checks s = _
  rw [execRollCallComplete, receiving, State.rollEnds, h.loop, formed]

theorem broadcastGapExpiry (h : OnLoop s x .gap) :
    exec .broadcastGapExpiry s = .next (s.endExchange x .broadcastDone) := by
  show execBroadcastGapExpiry s = _
  rw [execBroadcastGapExpiry, h.inPhase]

end OnLoop

/-- An ACK or a NAK of the responder starts in the reply window and, complete, is the exchange's outcome. -/
theorem loopReply_taken {s : State} {x : Exchange} (present : s.exchange = some x) (loop : s.mode = .loopback)
    {a : LoopAnswer} {o : Outcome} (formed : s.loopAnswer = some a) (fixes : a.outcome? = some o)
    (reply : x.command ≠ .roll) (characters : List Character) :
    (x.phase = .awaiting → exec .replyStart s = .next (s.toPhase x .receiving)) ∧
    (x.phase = .receiving → exec (.replyComplete characters) s = .next (s.endExchange x o)) := by
  have replies : s.loopReplies = true := by
    rw [State.loopReplies, formed, Option.bind_some, fixes]
    rfl
  exact ⟨fun phase => OnLoop.replyStart ⟨present, phase, loop⟩ reply replies,
    fun phase => OnLoop.replyComplete ⟨present, phase, loop⟩ reply formed fixes characters⟩

end Sys2Proof.Machine

open Sys2Proof Sys2Proof.Machine Sys2Proof.Safety

/-- Settles O27: the answer that each command forms, and the phase that it leads to. -/
theorem loopResponderAnswersEachCommand : Obligations.LoopResponderAnswersEachCommand := by
  intro s x present phase loop answered
  have sent := OnLoop.commandSent ⟨present, phase, loop⟩
  refine ⟨fun st station command => ?_, fun broadcast command => ?_, fun l roll level => ?_,
    fun l st cause level station => ⟨fun absent => ?_, fun set member asserted rest => ?_⟩⟩
  · rw [sent, afterSending_station x station, formAnswer_echo s x station command]
    rfl
  · have other : x.command ≠ .roll := by
      rcases command with write | control | sync
      · rw [write]; nofun
      · rw [control]; nofun
      · rw [sync]; nofun
    rw [sent, afterSending_broadcast x broadcast other, formAnswer_broadcast s x broadcast command]
    rfl
  · rw [sent, afterSending_roll x roll, formAnswer_roll s x roll level]
    rfl
  · rw [sent, afterSending_station x station, formAnswer_cause s x cause level station,
      loopCause_absent s l st absent]
    rfl
  · rw [sent, afterSending_station x station, formAnswer_cause s x cause level station,
      loopCause_present s l st member asserted rest]
    rfl

/-- Settles O30: the responder's replies, the gap of a broadcast, the words of a roll, and a roll with none. -/
theorem loopAnswersEndTheirExchange : Obligations.LoopAnswersEndTheirExchange := by
  intro s x present loop
  refine ⟨fun payload characters formed reply => loopReply_taken present loop formed rfl reply characters,
    fun reason characters formed reply => loopReply_taken present loop formed rfl reply characters,
    fun phase => OnLoop.broadcastGapExpiry ⟨present, phase, loop⟩,
    fun p m values checks formed roll => ⟨fun phase => ?_, fun phase => ?_⟩,
    fun empty roll phase => OnLoop.replyWindowExpiry ⟨present, phase, loop⟩ roll empty⟩
  · have opens : s.loopOpens = true := by rw [State.loopOpens, formed]
    exact OnLoop.rollCallOpening ⟨present, phase, loop⟩ roll opens
  · exact OnLoop.rollCallComplete ⟨present, phase, loop⟩ roll formed values checks
end

/-! ## The receiver of the control port (R56, R169, R170) -/
section
namespace Sys2Proof.Machine

/-! ### A byte in each intake state -/

theorem receiveByte_search (s : State) (b : Byte) (searching : s.intake = .search) :
    s.receiveByte b = { s with intake := if b = 0xA5 then .length else .search } := by
  rw [State.receiveByte, searching]
  dsimp only
  split
  · rfl
  · rw [← searching]

theorem receiveByte_length (s : State) (b : Byte) (awaited : s.intake = .length) :
    s.receiveByte b = { s with intake := intakeAfterLen b } := by
  rw [State.receiveByte, awaited]

theorem receiveByte_body (s : State) (b : Byte) {len : Nat} {collected : List Byte}
    (collecting : s.intake = .body len collected) (more : collected.length < len) :
    s.receiveByte b = { s with intake := .body len (collected ++ [b]) } := by
  rw [State.receiveByte, collecting]
  exact if_pos more

theorem receiveCharacter_whole (s : State) (c : Character) (stops : c.stop = .idle) :
    s.receiveCharacter c = s.receiveByte (characterByte c) := by
  conv_lhs => rw [← sampled_characterByte c stops]
  exact receiveCharacter_sampled s (characterByte c)

/-! ### The events of the receiver -/

theorem intakeAfterLen_outside (len : Byte) (outside : len.toNat < 2 ∨ 66 < len.toNat) :
    intakeAfterLen len = .search :=
  if_neg (by omega)

theorem exec_requestByteReceived (s : State) (c : Character) (takes : s.takesFrames = true) :
    exec (.requestByteReceived c) s = .next (s.receiveCharacter c) :=
  congrArg Host.Outcome.next (if_pos takes)

theorem exec_requestByteReceived_deaf (s : State) (c : Character) (deaf : s.takesFrames = false) :
    exec (.requestByteReceived c) s = .next s :=
  congrArg Host.Outcome.next (if_neg (by rw [deaf]; nofun))

/-- A whole character at a receiver that takes frames is its byte received. -/
theorem exec_requestByteReceived_whole (s : State) (c : Character) (takes : s.takesFrames = true)
    (stops : c.stop = .idle) :
    exec (.requestByteReceived c) s = .next (s.receiveByte (characterByte c)) := by
  rw [exec_requestByteReceived s c takes, receiveCharacter_whole s c stops]

end Sys2Proof.Machine

open Sys2Proof Sys2Proof.Machine Sys2Proof.Safety

/-- Settles O4: the levels of a character, the condition of R169, and each intake state in turn. -/
theorem receiverFollowsItsIntakeStates : Obligations.ReceiverFollowsItsIntakeStates := by
  refine ⟨characterByte_bit, fun c => ⟨fun stops => (sampled_characterByte c stops).symm, fun same => ?_⟩,
    fun s => (Standing.takesFrames_iff s).trans and_assoc, fun c s => ?_⟩
  · rw [same]
    rfl
  · refine ⟨exec_requestByteReceived_deaf s c, fun takes error => ?_, fun takes stops searching => ?_,
      fun takes stops awaited => ?_, fun len collected takes stops collecting more => ?_,
      fun awaited outside => ?_, rfl, rfl⟩
    · rw [exec_requestByteReceived s c takes, receiveCharacter_broken s c error]
    · rw [exec_requestByteReceived_whole s c takes stops, receiveByte_search s _ searching]
    · rw [exec_requestByteReceived_whole s c takes stops, receiveByte_length s _ awaited]
      rfl
    · rw [exec_requestByteReceived_whole s c takes stops, receiveByte_body s _ collecting more]
    · exact congrArg Host.Outcome.next (if_pos ⟨awaited, .inr (intakeAfterLen_outside _ outside)⟩)
end

/-! ## The station requests (R79 to R82, R108) -/
section
namespace Sys2Proof.Machine
open Sys2Proof.Safety

/-- A quantity of two bytes is read back from them. -/
theorem half_bytes (w : Half) : half (loByte w) (hiByte w) = w := by
  apply BitVec.eq_of_getLsbD_eq
  intro k within
  simp only [half, loByte, hiByte, BitVec.getLsbD_append, BitVec.getLsbD_extractLsb']
  by_cases low : k < 8
  · simp [low]
  · simp [low, show k - 8 < 8 by omega, show 8 + (k - 8) = k by omega]

theorem byteAndHalf_bytes16 (f : Byte → Half → Request) (b : Byte) (w : Half) :
    byteAndHalf f (b :: bytes16 w) = some (f b w) := by
  rw [bytes16, byteAndHalf, half_bytes]

/-- In every mode but HALTED a request reaches its owner, whose status is its reply. -/
theorem answered_running {s : State} (free : PortFree s) (running : s.mode ≠ .halted) (tag : Byte) {r : Request}
    (read : readBody (Request.kind r) (Request.body r) = some r) {status : Status} {change : State → State}
    (serves : serve r (arrived (requestFrame tag r) s) = (change (arrived (requestFrame tag r) s), status, [])) :
    Answered (commandOf tag r) tag r s status [] change :=
  answered_of_serve tag r s status [] change free (kind_isRequestKind r) read (.inl running) serves

/-- An exchange is in flight to a station while the dispatcher is BUSY with one addressed to it (R36). -/
theorem inFlightTo_iff (s : State) (st : StationId) : s.inFlightTo st = true ↔
    s.dispatcher = .busy ∧ s.exchange.any (fun x => decide (x.station = stationAddress st)) := by
  unfold State.inFlightTo State.inFlight
  rw [Bool.and_eq_true, decide_eq_true_eq]
  cases s.exchange <;> rfl

/-! ### A number above 30 -/

theorem serveEnroll_big {n : Byte} (big : 31 ≤ n.toNat) (mask : Half) (s : State) :
    serveEnroll n mask s = refused s .badValue := by
  rw [serveEnroll, stationOf_big n big]

theorem serveWithdraw_big {n : Byte} (big : 31 ≤ n.toNat) (s : State) :
    serveWithdraw n s = refused s .badValue := by
  rw [serveWithdraw, stationOf_big n big]

theorem serveRestore_big {n : Byte} (big : 31 ≤ n.toNat) (s : State) :
    serveRestore n s = refused s .badValue := by
  rw [serveRestore, stationOf_big n big]

theorem serveSetCauseMask_big {n : Byte} (big : 31 ≤ n.toNat) (mask : Half) (s : State) :
    serveSetCauseMask n mask s = refused s .badValue := by
  rw [serveSetCauseMask, stationOf_big n big]

/-! ### A station's number -/

section
variable {s : State} {st : StationId}

theorem serveEnroll_byte (s : State) (st : StationId) (mask : Half) : serveEnroll (byte st.val) mask s =
    if s.mode ≠ .configuration ∧ s.mode ≠ .hold then refused s .mode
    else if s.stations[st].state ≠ .vacant then refused s .enrolled
    else accepted (s.writeStation st { Station.reset with state := .probing, causeMask := mask }) := by
  rw [serveEnroll, stationOf_byte]

theorem serveEnroll_elsewhere (mask : Half) (mode : s.mode = .run ∨ s.mode = .loopback) :
    serveEnroll (byte st.val) mask s = refused s .mode := by
  rw [serveEnroll_byte, if_pos]
  rcases mode with mode | mode
  · rw [mode]; exact ⟨nofun, nofun⟩
  · rw [mode]; exact ⟨nofun, nofun⟩

theorem serveEnroll_occupied (mask : Half) (mode : s.mode = .configuration ∨ s.mode = .hold)
    (occupied : s.stations[st].state ≠ .vacant) : serveEnroll (byte st.val) mask s = refused s .enrolled := by
  rw [serveEnroll_byte, if_neg fun other => mode.elim other.1 other.2, if_pos occupied]

theorem serveEnroll_vacant (mask : Half) (mode : s.mode = .configuration ∨ s.mode = .hold)
    (vacant : s.stations[st].state = .vacant) : serveEnroll (byte st.val) mask s =
      accepted (s.writeStation st { Station.reset with state := .probing, causeMask := mask }) := by
  rw [serveEnroll_byte, if_neg fun other => mode.elim other.1 other.2, if_neg fun occupied => occupied vacant]

theorem serveWithdraw_byte (s : State) (st : StationId) : serveWithdraw (byte st.val) s =
    if s.stations[st].state = .vacant then refused s .stationVacant
    else if s.inFlightTo st then refused s .stationBusy
    else if 0 < s.stations[st].armed then refused s .stationBusy
    else accepted ((s.writeStation st Station.reset).dropFromLists st) := by
  rw [serveWithdraw, stationOf_byte]

theorem serveWithdraw_vacant (vacant : s.stations[st].state = .vacant) :
    serveWithdraw (byte st.val) s = refused s .stationVacant := by
  rw [serveWithdraw_byte, if_pos vacant]

theorem serveWithdraw_busy (occupied : s.stations[st].state ≠ .vacant)
    (busy : s.inFlightTo st = true ∨ 0 < s.stations[st].armed) :
    serveWithdraw (byte st.val) s = refused s .stationBusy := by
  rw [serveWithdraw_byte, if_neg occupied]
  split
  · rfl
  · rename_i idle
    exact if_pos (busy.resolve_left idle)

theorem serveWithdraw_accepts (occupied : s.stations[st].state ≠ .vacant) (idle : ¬ s.inFlightTo st = true)
    (unarmed : s.stations[st].armed = 0) : serveWithdraw (byte st.val) s =
      accepted ((s.writeStation st Station.reset).dropFromLists st) := by
  rw [serveWithdraw_byte, if_neg occupied, if_neg idle, if_neg unarmed.not_gt]

theorem serveRestore_byte (s : State) (st : StationId) : serveRestore (byte st.val) s =
    if s.stations[st].state ≠ .lost then refused s .notLost
    else accepted (s.writeStation st { s.stations[st] with
      state := .probing, score := 0, probeFailures := 0, toggle := false }) := by
  rw [serveRestore, stationOf_byte]

theorem serveSetCauseMask_byte (s : State) (st : StationId) (mask : Half) :
    serveSetCauseMask (byte st.val) mask s =
      if s.stations[st].state = .vacant then refused s .stationVacant
      else accepted (s.writeStation st { s.stations[st] with causeMask := mask }) := by
  rw [serveSetCauseMask, stationOf_byte]

end

/-! ### A service list without a station (R108) -/

section
variable {r : Line} {st : StationId}

theorem dropStation_unlisted (unlisted : st ∉ r.serviceList) : r.dropStation st = r := if_neg unlisted

theorem dropStation_last (listed : st ∈ r.serviceList) (last : r.serviceList.erase st = []) :
    r.dropStation st = r.empties := (if_pos listed).trans (if_pos last)

theorem dropStation_more (listed : st ∈ r.serviceList) (more : r.serviceList.erase st ≠ []) :
    r.dropStation st = { r with
      serviceList := r.serviceList.erase st
      readFailures := if r.serviceList.head? = some st then false else r.readFailures } :=
  (if_pos listed).trans (if_neg more)

end

end Sys2Proof.Machine

open Sys2Proof Sys2Proof.Machine Sys2Proof.Safety

/-- Settles O39: a number above 30, each request's checks in order, and a level's record without the station. -/
theorem stationRequestsActOnTheEntry : Obligations.StationRequestsActOnTheEntry := by
  refine ⟨fun tag n mask s free running big => ?_, fun tag st mask s free running => ?_,
    fun r st => ⟨dropStation_unlisted, dropStation_last, dropStation_more⟩⟩
  · exact ⟨answered_running (r := .enroll n mask) free running tag (byteAndHalf_bytes16 _ _ _)
        (serveEnroll_big big mask _),
      answered_running (r := .withdraw n) free running tag rfl (serveWithdraw_big big _),
      answered_running (r := .restore n) free running tag rfl (serveRestore_big big _),
      answered_running (r := .setCauseMask n mask) free running tag (byteAndHalf_bytes16 _ _ _)
        (serveSetCauseMask_big big mask _)⟩
  · intro e enroll withdraw restore setMask flying
    have flies : s.inFlightTo st = true ↔ flying := inFlightTo_iff s st
    have enrolls {status change} (serves : _) : enroll status change :=
      answered_running (r := .enroll (byte st.val) mask) free running tag (byteAndHalf_bytes16 _ _ _) serves
    have withdraws {status change} (serves : _) : withdraw status change :=
      answered_running (r := .withdraw (byte st.val)) free running tag rfl serves
    have restores {status change} (serves : _) : restore status change :=
      answered_running (r := .restore (byte st.val)) free running tag rfl serves
    have masks {status change} (serves : _) : setMask status change :=
      answered_running (r := .setCauseMask (byte st.val) mask) free running tag (byteAndHalf_bytes16 _ _ _) serves
    exact ⟨fun mode => enrolls (serveEnroll_elsewhere mask mode),
      fun mode => ⟨fun occupied => enrolls (serveEnroll_occupied mask mode occupied),
        fun vacant => enrolls (serveEnroll_vacant mask mode vacant)⟩,
      fun vacant => withdraws (serveWithdraw_vacant vacant),
      fun occupied busy => withdraws (serveWithdraw_busy occupied (busy.imp_left flies.2)),
      fun occupied idle unarmed =>
        withdraws (serveWithdraw_accepts occupied (fun flight => idle (flies.1 flight)) unarmed),
      fun stands => restores ((serveRestore_byte _ st).trans (if_pos stands)),
      fun lost => restores ((serveRestore_byte _ st).trans (if_neg fun stands => stands lost)),
      fun vacant => masks ((serveSetCauseMask_byte _ st mask).trans (if_pos vacant)),
      fun occupied => masks ((serveSetCauseMask_byte _ st mask).trans (if_neg occupied))⟩
end

/-! ## The end of a PROBE (R85, R86) -/
section
namespace Sys2Proof.Machine
open Sys2Proof.Safety

/-- Outside LOOPBACK the station table takes the outcome of a station's PROBE. -/
theorem stationTakes_probe {s : State} {x : Exchange} {st : StationId} (pair : s.mode ≠ .loopback)
    (kind : x.kind = .probe) (station : x.station = stationAddress st) (o : Outcome) :
    s.stationTakes x o = s.probeEnd st o := by
  rw [State.stationTakes, if_neg pair, station, station?_address, kind]

/-- The outcomes of R86 are a probe failure. -/
theorem probeEnd_failure (s : State) (st : StationId) {o : Outcome}
    (failure : o = .silent ∨ o = .garbled ∨ o = .echoMismatch ∨ ∃ reason, o = .nak reason) :
    s.probeEnd st o = s.probeFails st := by
  rcases failure with rfl | rfl | rfl | ⟨reason, rfl⟩ <;> rfl

/-- Outcomes that say nothing of the station leave it. -/
theorem probeEnd_other (s : State) (st : StationId) {o : Outcome}
    (other : o = .busy ∨ o = .blocked ∨ o = .abandoned) : s.probeEnd st o = s := by
  rcases other with rfl | rfl | rfl <;> rfl

theorem probeFails_first {s : State} {st : StationId} (first : s.stations[st].probeFailures = 0) :
    s.probeFails st = s.writeStation st { s.stations[st] with probeFailures := 1 } := if_pos first

theorem probeFails_again {s : State} {st : StationId} (again : s.stations[st].probeFailures ≠ 0) :
    s.probeFails st = (s.writeStation st { s.stations[st] with state := .lost }).loseStation st .probe
      (some s.stations[st].state) none := if_neg again

end Sys2Proof.Machine

open Sys2Proof Sys2Proof.Machine Sys2Proof.Safety

/-- Settles O38, by the outcome and, where it is a failure, by the failures counted before it. -/
theorem probeEndsMoveTheStation : Obligations.ProbeEndsMoveTheStation := by
  intro s x st pair kind station e
  have takes := stationTakes_probe pair kind station
  refine ⟨fun a b => takes _, fun o failure => ?_, fun o other => (takes o).trans (probeEnd_other s st other)⟩
  have fails : s.stationTakes x o = s.probeFails st := (takes o).trans (probeEnd_failure s st failure)
  exact ⟨fun first => fails.trans (probeFails_first first),
    fun second => fails.trans (probeFails_again (second ▸ Nat.one_ne_zero))⟩
end

/-! ## Scoring (R47, R87 to R89, R92) -/
section
namespace Sys2Proof.Machine
open Sys2Proof.Safety

/-! ### What an outcome makes of a station's entry -/

/-- The answers of R88: ACK and NAK. -/
def Outcome.answers (o : Outcome) : Prop := (∃ payload, o = .ack payload) ∨ ∃ reason, o = .nak reason

theorem flipsToggle_iff (o : Outcome) : o.flipsToggle = true ↔ o.answers := by
  cases o <;> simp [Outcome.flipsToggle, Outcome.answers]

theorem scored_iff (state : StationState) : state.scored = true ↔ state ≠ .vacant ∧ state ≠ .lost := by
  cases state <;> simp [StationState.scored]

theorem score_answered {o : Outcome} (answered : o.answers) (n : Nat) : o.score n = n - 1 := by
  rcases answered with ⟨payload, rfl⟩ | ⟨reason, rfl⟩ <;> rfl

theorem score_failure {o : Outcome} (failure : o.linkFails) (n : Nat) : o.score n = n + 8 := by
  rcases failure with rfl | rfl | rfl <;> rfl

/-- An outcome that is neither an answer nor a link failure leaves the score. -/
theorem score_other {o : Outcome} (unanswered : ¬ o.answers) (noFailure : ¬ o.linkFails) (n : Nat) :
    o.score n = n := by
  cases o with
  | ack payload => exact absurd (.inl ⟨payload, rfl⟩) unanswered
  | nak reason => exact absurd (.inr ⟨reason, rfl⟩) unanswered
  | silent => exact absurd (.inl rfl) noFailure
  | garbled => exact absurd (.inr (.inl rfl)) noFailure
  | echoMismatch => exact absurd (.inr (.inr rfl)) noFailure
  | _ => rfl

/-- The thresholds of TABLE 4-6, first row that matches. -/
theorem onScore_eq (state : StationState) (score : Nat) : state.onScore score =
    if (state ≠ .vacant ∧ state ≠ .lost) ∧ 240 ≤ score then .lost
    else if state = .good ∧ 64 ≤ score then .suspect
    else if state = .suspect ∧ 128 ≤ score then .silenced
    else if state = .suspect ∧ score < 32 then .good
    else if state = .silenced ∧ score < 96 then .suspect
    else state := by
  have top : (state.scored && decide (240 ≤ score)) = true ↔
      (state ≠ .vacant ∧ state ≠ .lost) ∧ 240 ≤ score := by
    rw [Bool.and_eq_true, scored_iff, decide_eq_true_eq]
  unfold StationState.onScore
  rw [if_congr top rfl rfl]
  congr 1
  cases state <;> simp

section
variable {e : Station} {o : Outcome}

theorem afterExchange_toggle {toggle : Bool} (flips : o.answers → toggle = !e.toggle)
    (stays : ¬ o.answers → toggle = e.toggle) : (e.afterExchange o).toggle = toggle := by
  show (if o.flipsToggle then !e.toggle else e.toggle) = toggle
  split
  · rename_i flip
    exact (flips ((flipsToggle_iff o).1 flip)).symm
  · rename_i still
    exact (stays fun answered => still ((flipsToggle_iff o).2 answered)).symm

theorem afterExchange_score {score : Nat}
    (lowers : e.state ≠ .vacant ∧ e.state ≠ .lost → o.answers → score = e.score - 1)
    (raises : e.state ≠ .vacant ∧ e.state ≠ .lost → o.linkFails → score = e.score + 8)
    (keeps : ¬ (e.state ≠ .vacant ∧ e.state ≠ .lost) ∨ (¬ o.answers ∧ ¬ o.linkFails) → score = e.score) :
    (e.afterExchange o).score = score := by
  show (if e.state.scored then o.score e.score else e.score) = score
  rw [if_congr (scored_iff e.state) rfl rfl]
  split
  · rename_i live
    by_cases answered : o.answers
    · rw [score_answered answered, lowers live answered]
    · by_cases failure : o.linkFails
      · rw [score_failure failure, raises live failure]
      · rw [score_other answered failure, keeps (.inr ⟨answered, failure⟩)]
  · rename_i dead
    exact (keeps (.inl dead)).symm

/-- The entry is the old one with its toggle, its score and the state that the score gives. -/
theorem afterExchange_eq {toggle : Bool} {score : Nat} (toggles : (e.afterExchange o).toggle = toggle)
    (scores : (e.afterExchange o).score = score) : e.afterExchange o =
      { e with toggle := toggle, score := score, state := e.state.onScore score } := by
  rw [← toggles, ← scores]
  rfl

end

/-! ### The station table's step -/

section
variable {s : State} {x : Exchange} {st : StationId} {own : Option SlotId} {o : Outcome}

/-- Outside LOOPBACK the station table scores the outcome of a SLOT or a CAUSE. -/
theorem stationTakes_scores (pair : s.mode ≠ .loopback) (station : x.station = stationAddress st)
    (kind : x.kind = .slot ∨ x.kind = .cause) (o : Outcome) : s.stationTakes x o = s.scoreEnd st x.slot o := by
  rw [State.stationTakes, if_neg pair, station, station?_address]
  rcases kind with kind | kind <;> rw [kind]

/-- A LOOPBACK exchange, a broadcast and a ROLL do not reach the station table. -/
theorem stationTakes_nothing (o : Outcome) (apart : s.mode = .loopback ∨ x.station = 31 ∨ x.kind = .roll) :
    s.stationTakes x o = s := by
  unfold State.stationTakes
  rcases apart with loop | broadcast | roll
  · rw [if_pos loop]
  · rw [broadcast]
    split <;> rfl
  · rw [roll]
    split
    · rfl
    · split <;> rfl

/-- The entry with the outcome scored, its check code new. -/
def State.scoreWritten (s : State) (st : StationId) (o : Outcome) : State :=
  s.writeStation st (s.stations[st].afterExchange o)

theorem scoreEnd_stands (stands : (s.stations[st].afterExchange o).state = s.stations[st].state) :
    s.scoreEnd st own o = s.scoreWritten st o := if_pos stands

theorem scoreEnd_lost (moved : (s.stations[st].afterExchange o).state ≠ s.stations[st].state)
    (lost : (s.stations[st].afterExchange o).state = .lost) : s.scoreEnd st own o =
      (s.scoreWritten st o).loseStation st .score (some s.stations[st].state) own :=
  (if_neg moved).trans (if_pos lost)

theorem scoreEnd_told (moved : (s.stations[st].afterExchange o).state ≠ s.stations[st].state)
    (kept : (s.stations[st].afterExchange o).state ≠ .lost) : s.scoreEnd st own o =
      (s.scoreWritten st o).queueReserved (.station st .score (some s.stations[st].state)
        (s.stations[st].afterExchange o).state (s.stations[st].afterExchange o).score none []) :=
  (if_neg moved).trans (if_neg kept)

end

/-! ### The pair released before the station table's step -/

theorem failOne_stopLink (st : StationId) (s : State) (i : SlotId) :
    State.failOne st s.stopLink i = (State.failOne st s i).stopLink := by
  have fails : s.stopLink.failLost i = (s.failLost i).stopLink := by
    simp only [failLost_eq, State.stopLink]
  by_cases waits : s.slots[i].waitsAt st = true
  · rw [State.failOne, State.failOne, if_pos waits, ← fails]
    exact if_pos waits
  · rw [State.failOne, State.failOne, if_neg waits]
    exact if_neg waits

theorem failSlotsOf_stopLink (s : State) (st : StationId) :
    s.stopLink.failSlotsOf st = (s.failSlotsOf st).stopLink := by
  rw [failSlotsOf_eq, failSlotsOf_eq]
  exact List.foldl_hom State.stopLink (failOne_stopLink st)

theorem loseStation_stopLink (s : State) (st : StationId) (reason : StationReason) (old : Option StationState)
    (own : Option SlotId) : s.stopLink.loseStation st reason old own = (s.loseStation st reason old own).stopLink := by
  rw [loseStation_eq, loseStation_eq, failSlotsOf_stopLink]
  rfl

theorem scoreEnd_stopLink (s : State) (st : StationId) (own : Option SlotId) (o : Outcome) :
    s.stopLink.scoreEnd st own o = (s.scoreEnd st own o).stopLink := by
  by_cases stands : (s.stations[st].afterExchange o).state = s.stations[st].state
  · rw [scoreEnd_stands stands]
    exact scoreEnd_stands stands
  · by_cases lost : (s.stations[st].afterExchange o).state = .lost
    · rw [scoreEnd_lost stands lost, ← loseStation_stopLink]
      exact scoreEnd_lost stands lost
    · rw [scoreEnd_told stands lost]
      exact scoreEnd_told stands lost

theorem probeFails_stopLink (s : State) (st : StationId) :
    s.stopLink.probeFails st = (s.probeFails st).stopLink := by
  by_cases first : s.stations[st].probeFailures = 0
  · rw [probeFails_first first]
    exact probeFails_first first
  · rw [probeFails_again first, ← loseStation_stopLink]
    exact probeFails_again first

theorem probeEnd_stopLink (s : State) (st : StationId) (o : Outcome) :
    s.stopLink.probeEnd st o = (s.probeEnd st o).stopLink := by
  cases o with
  | nak | silent | garbled | echoMismatch => exact probeFails_stopLink s st
  | _ => rfl

/-- The station table reads and writes nothing of the pair. -/
theorem stationTakes_stopLink (s : State) (x : Exchange) (o : Outcome) :
    s.stopLink.stationTakes x o = (s.stationTakes x o).stopLink := by
  by_cases loop : s.mode = .loopback
  · rw [stationTakes_nothing o (.inl loop)]
    exact stationTakes_nothing (s := s.stopLink) o (.inl loop)
  · cases addressed : Address.station? x.station with
    | none => simp only [State.stationTakes, addressed, ite_self]
    | some st =>
      have station := address_of_station? _ _ addressed
      cases kind : x.kind with
      | slot =>
        rw [stationTakes_scores loop station (.inl kind), ← scoreEnd_stopLink]
        exact stationTakes_scores (s := s.stopLink) loop station (.inl kind) o
      | cause =>
        rw [stationTakes_scores loop station (.inr kind), ← scoreEnd_stopLink]
        exact stationTakes_scores (s := s.stopLink) loop station (.inr kind) o
      | probe =>
        rw [stationTakes_probe loop kind station, ← probeEnd_stopLink]
        exact stationTakes_probe (s := s.stopLink) loop kind station o
      | roll =>
        rw [stationTakes_nothing (s := s) o (.inr (.inr kind))]
        exact stationTakes_nothing (s := s.stopLink) o (.inr (.inr kind))

/-! ### What the rest of an end leaves of every entry -/

/-- A station's entry but for its armed count, its last cause and its check code. -/
def Station.scoring (e : Station) : Station := { e with armed := 0, lastCause := none, codeAgrees := true }

theorem lowered_scoring (e : Station) (n : Nat) : (e.lowered n).scoring = e.scoring := by
  unfold Station.lowered
  split <;> rfl

/-- Every entry keeps its scoring. -/
def KeepsScoring (s t : State) : Prop := ∀ k : StationId, t.stations[k].scoring = s.stations[k].scoring

namespace KeepsScoring
variable {s t u : State}

theorem same (stations : t.stations = s.stations) : KeepsScoring s t := fun k => by rw [stations]

theorem trans (h : KeepsScoring s t) (k : KeepsScoring t u) : KeepsScoring s u := fun st => (k st).trans (h st)

theorem recounted {a : Address} {f : Nat → Nat} (stations : t.stations = recount s.stations a f) :
    KeepsScoring s t := fun k => by
  rw [stations, recount_at]
  split <;> rfl

end KeepsScoring

theorem disarmAll_keepsScoring (s : State) : KeepsScoring s s.disarmAll := fun k => by
  rw [disarmAll_stations, lowered_scoring]

theorem changeMode_keepsScoring (s : State) (m : Mode) (c : ModeCause) : KeepsScoring s (s.changeMode m c) := by
  by_cases entry : m = .configuration
  · subst entry
    have told : KeepsScoring s (s.modeTold .configuration) := .same rfl
    obtain ⟨-, stations, -⟩ := changeMode_tables_configuration s c
    exact (told.trans (disarmAll_keepsScoring _)).trans (.same stations)
  · obtain ⟨-, stations, -⟩ := changeMode_tables_other s m c entry
    exact .same stations

theorem slotEnd_keepsScoring (s : State) (i : SlotId) (o : Outcome) : KeepsScoring s (s.slotEnd i o) := by
  rcases roll_or_not o with ⟨v, p, m, rfl⟩ | notRoll
  · exact .same rfl
  · have ends := slotEnd_cases s i o notRoll
    generalize s.slotEnd i o = t at ends ⊢
    cases ends with
    | ended r report => exact .recounted (a := s.slots[i].station) (f := fun n => n - 1) rfl
    | repeats p => exact .same rfl
    | retried n => exact .same rfl

theorem rollEnd_stations (s : State) (l : LineId) (o : Outcome) : (s.rollEnd l o).stations = s.stations := by
  have ends : ∀ set union, (s.endRoll l set union).stations = s.stations := by
    intro set union
    unfold State.endRoll
    dsimp only
    split <;> rfl
  have fails : ∀ p m, (s.rollFails l p m).stations = s.stations := by
    intro p m
    unfold State.rollFails
    split
    · exact ends _ _
    · rfl
  unfold State.rollEnd
  split
  · exact ends _ _
  · exact fails _ _
  · exact fails _ _
  all_goals rfl

/-- A last cause is written at most. -/
theorem causeAck_keepsScoring (s : State) (l : LineId) (st : StationId) (payload : List Byte) :
    KeepsScoring s (s.causeAck l st payload) := by
  have written : ∀ cause, KeepsScoring s (s.writeStation st { s.stations[st] with lastCause := some cause }) :=
    fun cause k => set_keeps Station.scoring s.stations st k _ rfl
  unfold State.causeAck
  dsimp only
  split
  · split
    · exact .same rfl
    · exact (written _).trans (.same rfl)
  · split
    · exact .same rfl
    · exact (written _).trans (.same rfl)

theorem readFails_stations (s : State) (l : LineId) (st : StationId) (o : Outcome) :
    (s.readFails l st o).stations = s.stations := by
  unfold State.readFails
  split <;> rfl

theorem causeEnd_keepsScoring (s : State) (l : LineId) (st : StationId) (o : Outcome) :
    KeepsScoring s (s.causeEnd l st o) := by
  unfold State.causeEnd
  split
  · cases o with
    | ack payload => exact causeAck_keepsScoring s l st payload
    | busy | silent | garbled | echoMismatch => exact .same (readFails_stations s l st _)
    | _ => exact .same rfl
  · exact .same rfl

theorem ownerTakes_keepsScoring (s : State) (x : Exchange) (o : Outcome) : KeepsScoring s (s.ownerTakes x o) := by
  unfold State.ownerTakes
  split
  · exact slotEnd_keepsScoring _ _ _
  · exact .same (rollEnd_stations _ _ _)
  · exact causeEnd_keepsScoring _ _ _ _
  · exact .same rfl

theorem forceHold_keepsScoring (s : State) (c : ModeCause) : KeepsScoring s (s.forceHold c) := by
  unfold State.forceHold
  split
  · exact changeMode_keepsScoring s .hold c
  · exact .same rfl

theorem takeFault_stations (s : State) (f : FaultRecord) : (s.takeFault f).stations = s.stations := by
  have only := takeFault_only s f
  unfold OnlyFault at only
  rw [only]

theorem linkStuck_keepsScoring (s : State) (x : Exchange) (o : Outcome) : KeepsScoring s (s.linkStuck x o) := by
  unfold State.linkStuck
  split
  · exact (KeepsScoring.same (takeFault_stations s _)).trans (forceHold_keepsScoring _ _)
  · exact .same rfl

theorem freed_stations (x : Exchange) (o : Outcome) (v : State) : (v.freed x o).stations = v.stations := by
  have soft := softTests_only { v.stepReport x o with reserved := 0, exchange := none, loopAnswer := none }
  unfold OnlySoft at soft
  unfold State.freed State.release State.dispatcherAfter
  rw [soft, stepReport_eq]
  split <;> rfl

theorem completeRequested_keepsScoring (s : State) : KeepsScoring s s.completeRequested := by
  cases asked : s.requested with
  | none => exact .same (by rw [completeRequested_none s asked])
  | some m =>
    rw [completeRequested_some s asked]
    exact changeMode_keepsScoring s m .request

/-- Behind the station table's step the end of an exchange leaves the scoring of every entry. -/
theorem endExchange_keepsScoring (s : State) (x : Exchange) (o : Outcome) :
    KeepsScoring (s.stationTakes x o) (s.endExchange x o) := by
  have released : KeepsScoring (s.stationTakes x o) (s.stopLink.stationTakes x o) := by
    rw [stationTakes_stopLink]
    exact .same rfl
  have told : KeepsScoring (s.stationTakes x o) (s.tablesTold x o) :=
    released.trans (ownerTakes_keepsScoring _ x o)
  have freed : KeepsScoring (s.stationTakes x o) (((s.tablesTold x o).linkStuck x o).freed x o) :=
    (told.trans (linkStuck_keepsScoring _ x o)).trans (.same (freed_stations x o _))
  rw [endExchange_steps]
  exact freed.trans (completeRequested_keepsScoring _)

/-- The scoring holds every field that R87 to R89 write, the identity, the probe failures and the cause mask. -/
theorem fields_of_scoring {e f : Station} (same : e.scoring = f.scoring) :
    e.state = f.state ∧ e.score = f.score ∧ e.toggle = f.toggle ∧ e.identity = f.identity ∧
      e.probeFailures = f.probeFailures ∧ e.causeMask = f.causeMask := by
  have field {α : Type} (read : Station → α) : read e.scoring = read f.scoring := congrArg read same
  exact ⟨field Station.state, field Station.score, field Station.toggle, field Station.identity,
    field Station.probeFailures, field Station.causeMask⟩

end Sys2Proof.Machine

open Sys2Proof Sys2Proof.Machine Sys2Proof.Safety

/-- Settles O36: the entry that the outcome makes, then the three cases of its state; the exchanges that do not
reach the table; and what the steps behind it leave. -/
theorem scoringFollowsTheOutcome : Obligations.ScoringFollowsTheOutcome := by
  refine ⟨?_, fun s x o apart => stationTakes_nothing o apart,
    fun s x o st => fields_of_scoring (endExchange_keepsScoring s x o st)⟩
  intro s x o st pair station kind e answered failure live toggle score state flips stays lowers raises keeps states
    written
  have entry : e.afterExchange o = { e with toggle := toggle, score := score, state := state } := by
    rw [afterExchange_eq (afterExchange_toggle flips stays) (afterExchange_score lowers raises keeps), onScore_eq,
      ← states]
  have writes : s.scoreWritten st o = written := by
    rw [State.scoreWritten, entry]
    rfl
  have takes := stationTakes_scores pair station kind o
  have entryState : (e.afterExchange o).state = state := by rw [entry]
  have entryScore : (e.afterExchange o).score = score := by rw [entry]
  refine ⟨fun stands => ?_, fun moved kept => ?_, fun moved lost => ?_⟩
  · rw [takes, scoreEnd_stands (entryState.trans stands), writes]
  · rw [takes, scoreEnd_told (entryState ▸ moved) (entryState ▸ kept), writes, entryState, entryScore]
    rfl
  · rw [takes, scoreEnd_lost (entryState ▸ moved) (entryState.trans lost), writes]
end

/-! ## A level's service list: the ends of its ROLL and its CAUSE (R102 to R109) -/
section
namespace Sys2Proof.Machine
open Sys2Proof.Safety

/-! ### The end of a ROLL (R102, R103) -/

theorem ownerTakes_roll {s : State} {x : Exchange} {l : LineId} (roll : x.kind = .roll) (level : x.level = some l)
    (o : Outcome) : s.ownerTakes x o = s.rollEnd l o := by
  rw [State.ownerTakes, roll, level]

/-- R102: the list is the identified set less every VACANT and every LOST station. -/
theorem mem_servable (s : State) (set : StationSet) (st : StationId) : st ∈ s.servable set ↔
    set.getLsbD st.val = true ∧ s.stations[st].state ≠ .vacant ∧ s.stations[st].state ≠ .lost := by
  simp only [State.servable, StationSet.members, allStations, List.mem_filter, List.mem_finRange, true_and,
    Bool.and_eq_true, decide_eq_true_eq]

/-- The record that an ended roll sequence leaves, in a given state (R102). -/
def Line.rolled (r : Line) (set : StationSet) (union : Bool) (list : List StationId) (state : LineState) : Line :=
  { r with
    lastPresence := set, unionUsed := union, rollAttempt := false, readFailures := false
    serviceList := list, state := state }

section
variable {r : Line} {set : StationSet} {union : Bool} {list : List StationId}

theorem afterRoll_serving (served : list ≠ []) : r.afterRoll set union list = r.rolled set union list .serving :=
  congrArg (r.rolled set union list) (if_neg served)

theorem afterRoll_quiet (empty : list = []) (released : r.filtered = false) :
    r.afterRoll set union list = r.rolled set union list .quiet :=
  congrArg (r.rolled set union list) ((if_pos empty).trans (if_neg (ne_true_of_eq_false released)))

theorem afterRoll_stuck (empty : list = []) (asserted : r.filtered = true) :
    r.afterRoll set union list = r.rolled set union list .stuck :=
  congrArg (r.rolled set union list) ((if_pos empty).trans (if_pos asserted))

end

section
variable {s : State} {l : LineId} {set : StationSet} {union : Bool}

theorem endRoll_serving (served : s.servable set ≠ []) : s.endRoll l set union =
    s.writeLine l (s.lines[l].rolled set union (s.servable set) .serving) := by
  rw [State.endRoll, afterRoll_serving served]
  exact if_neg nofun

theorem endRoll_quiet (empty : s.servable set = []) (released : s.lines[l].filtered = false) :
    s.endRoll l set union = s.writeLine l (s.lines[l].rolled set union (s.servable set) .quiet) := by
  rw [State.endRoll, afterRoll_quiet empty released]
  exact if_neg nofun

theorem endRoll_stuck (empty : s.servable set = []) (asserted : s.lines[l].filtered = true) :
    s.endRoll l set union =
      (s.writeLine l (s.lines[l].rolled set union (s.servable set) .stuck)).queueReserved
        (.attnStuck l set union) := by
  rw [State.endRoll, afterRoll_stuck empty asserted]
  exact if_pos rfl

end

/-- Every verdict but CONSISTENT is a failed roll (R103). -/
theorem rollEnd_failed (s : State) (l : LineId) {v : Verdict} (failed : v ≠ .consistent) (p m : StationSet) :
    s.rollEnd l (.rollResult v p m) = s.rollFails l p m := by
  cases v with
  | consistent => exact absurd rfl failed
  | mismatch => rfl
  | garbled => rfl

theorem rollFails_first {s : State} {l : LineId} (first : s.lines[l].rollAttempt = false) (p m : StationSet) :
    s.rollFails l p m = s.writeLine l { s.lines[l] with rollAttempt := true } :=
  if_neg (ne_true_of_eq_false first)

theorem rollFails_second {s : State} {l : LineId} (second : s.lines[l].rollAttempt = true) (p m : StationSet) :
    s.rollFails l p m = s.endRoll l (p ||| mirrored m) true := if_pos second

/-- R103's union is the presence word with the mirror word's slots in the opposite order. -/
theorem union_eq {set p m : StationSet}
    (bits : ∀ n : Fin 31, set.getLsbD n.val = (p.getLsbD n.val || m.getLsbD (30 - n.val))) :
    set = p ||| mirrored m := by
  refine BitVec.eq_of_getLsbD_eq fun k inside => ?_
  rw [BitVec.getLsbD_or, mirrored_bit m ⟨k, inside⟩, bits ⟨k, inside⟩]

/-! ### The end of a CAUSE (R105 to R109) -/

theorem ownerTakes_cause {s : State} {x : Exchange} {l : LineId} {st : StationId} (cause : x.kind = .cause)
    (level : x.level = some l) (station : x.station = stationAddress st) (o : Outcome) :
    s.ownerTakes x o = s.causeEnd l st o := by
  rw [State.ownerTakes, cause, level, station, station?_address]

/-- R42: the first byte of a CAUSE ACK is the cause's number. -/
theorem causeOf_byte (c : Fin 16) (detail : List Byte) : causeOf (byte c.val :: detail) = c := by
  have number : ∀ c : Fin 16, Fin.ofNat 16 (byte c.val).toNat = c := by decide
  exact number c

theorem dropHead_cons {r : Line} {st : StationId} {rest : List StationId} (list : r.serviceList = st :: rest) :
    r.dropHead = if rest = [] then { r with
        serviceList := [], rollAttempt := false, readFailures := false
        state := if r.filtered then .pending else .quiet }
      else { r with serviceList := rest, readFailures := false } := by
  rw [Line.dropHead, list, List.tail_cons]
  rfl

section
variable {s : State} {l : LineId} {st : StationId}

/-- A station that a loss has removed from the head is taken no further (R109). -/
theorem causeEnd_other (elsewhere : s.lines[l].serviceList.head? ≠ some st) (o : Outcome) :
    s.causeEnd l st o = s := if_neg elsewhere

theorem causeEnd_ack (head : s.lines[l].serviceList.head? = some st) (payload : List Byte) :
    s.causeEnd l st (.ack payload) = s.causeAck l st payload := if_pos head

theorem causeEnd_nak (head : s.lines[l].serviceList.head? = some st) (reason : Byte) :
    s.causeEnd l st (.nak reason) = s.writeLine l s.lines[l].dropHead := if_pos head

/-- The outcomes of R106 are a failed read. -/
theorem causeEnd_failed (head : s.lines[l].serviceList.head? = some st) {o : Outcome}
    (failed : o = .busy ∨ o = .silent ∨ o = .garbled ∨ o = .echoMismatch) :
    s.causeEnd l st o = s.readFails l st o := by
  rcases failed with rfl | rfl | rfl | rfl <;> exact if_pos head

/-- R107: an exchange that did not reach its station leaves the level. -/
theorem causeEnd_unsent (s : State) (l : LineId) (st : StationId) {o : Outcome}
    (unsent : o = .blocked ∨ o = .abandoned) : s.causeEnd l st o = s := by
  rcases unsent with rfl | rfl <;> exact ite_self s

theorem readFails_first (first : s.lines[l].readFailures = false) (o : Outcome) :
    s.readFails l st o = s.writeLine l { s.lines[l] with readFailures := true } :=
  if_neg (ne_true_of_eq_false first)

theorem readFails_second (second : s.lines[l].readFailures = true) (o : Outcome) :
    s.readFails l st o = (s.writeLine l s.lines[l].dropHead).queueReserved (.attnUnread st [l] (some o)) :=
  if_pos second

/-- R105: the last cause is written outside LOOPBACK, the head leaves, and a cause in the mask is reported. -/
theorem causeAck_byte (s : State) (l : LineId) (st : StationId) (c : Fin 16) (detail : List Byte) :
    s.causeAck l st (byte c.val :: detail) =
      let told := (if s.mode = .loopback then s
        else s.writeStation st { s.stations[st] with lastCause := some c }).writeLine l s.lines[l].dropHead
      if s.stations[st].causeMask.getLsbD c.val then told.queueReserved (.attnCause l st c detail) else told := by
  rw [State.causeAck, causeOf_byte]
  rfl

end

end Sys2Proof.Machine

open Sys2Proof Sys2Proof.Machine Sys2Proof.Safety

/-- Settles O43: the list is the served stations of the identified set; then whether it is empty and, where it
is, whether the filtered line is asserted. -/
theorem rollEndsFormTheServiceList : Obligations.RollEndsFormTheServiceList := by
  intro s x l roll level r ends
  have takes : ∀ o, s.ownerTakes x o = s.rollEnd l o := ownerTakes_roll roll level
  have ended : ∀ set union, ends set union (s.endRoll l set union) := fun set union =>
    ⟨s.servable set, Tables.servable_ascending s set, mem_servable s set, endRoll_serving, endRoll_quiet, endRoll_stuck⟩
  refine ⟨fun p m => ?_, fun v p m failed => ⟨fun first => ?_, fun second set bits => ?_⟩, fun o unsent => ?_⟩
  · rw [takes]
    exact ended p false
  · rw [takes, rollEnd_failed s l failed, rollFails_first first]
    rfl
  · rw [takes, rollEnd_failed s l failed, rollFails_second second, ← union_eq bits]
    exact ended set true
  · rw [takes]
    rcases unsent with rfl | rfl <;> rfl

/-- Settles O44: a station no longer at the head, then each outcome of a read of the head. -/
theorem causeEndsServeTheHead : Obligations.CauseEndsServeTheHead := by
  intro s x l st cause level station r
  have takes : ∀ o, s.ownerTakes x o = s.causeEnd l st o := ownerTakes_cause cause level station
  refine ⟨fun o elsewhere => (takes o).trans (causeEnd_other elsewhere o), ?_⟩
  intro rest list removed done
  have head : s.lines[l].serviceList.head? = some st := congrArg List.head? list
  have drops : s.writeLine l s.lines[l].dropHead = done := congrArg (s.writeLine l) (dropHead_cons list)
  refine ⟨fun c detail => ?_, fun reason => ?_, fun o failed => ⟨fun first => ?_, fun second => ?_⟩,
    fun o unsent => (takes o).trans (causeEnd_unsent s l st unsent)⟩
  · intro told
    rw [takes, causeEnd_ack head, causeAck_byte, show s.lines[l].dropHead = removed from dropHead_cons list]
    dsimp only [told]
    by_cases loop : s.mode = .loopback
    · rw [if_pos loop, if_pos loop]
      rfl
    · rw [if_neg loop, if_neg loop]
      rfl
  · rw [takes, causeEnd_nak head, drops]
  · rw [takes, causeEnd_failed head failed, readFails_first first]
    rfl
  · rw [takes, causeEnd_failed head failed, readFails_second second, drops]
    rfl
end

/-! ## The test of a soft level (R112) -/
section
namespace Sys2Proof.Machine
open Sys2Proof.Safety

/-- R112: origins that pass the gate become a SOFT report. -/
theorem softTest_open {s : State} {l : SoftId} (pending : s.soft[l] ≠ 0) (passes : s.gateOpen l) :
    s.softTest l = { s with
      reports := s.reports ++ [⟨s.uptime, .attnSoft l s.soft[l]⟩]
      soft := s.soft.set l 0 } :=
  if_pos ((softAdmitted_iff s l).2 ⟨pending, passes⟩)

theorem softTest_shut {s : State} {l : SoftId} (shut : ¬ (s.soft[l] ≠ 0 ∧ s.gateOpen l)) : s.softTest l = s :=
  if_neg fun admitted => shut ((softAdmitted_iff s l).1 admitted)

theorem exec_softAttentionReport (s : State) (l : SoftId) :
    exec (.softAttentionReport l) s = .next (s.softTest l) := rfl

end Sys2Proof.Machine

open Sys2Proof Sys2Proof.Machine Sys2Proof.Safety

/-- Settles O42, by whether the level has origins that pass the gate. -/
theorem softReportsPassTheirGate : Obligations.SoftReportsPassTheirGate := by
  refine ⟨fun s l => ⟨fun passes => ?_, fun shut => ?_, exec_softAttentionReport s l⟩, fun _ => rfl⟩
  · obtain ⟨pending, gate⟩ := passes
    rw [exec_softAttentionReport, softTest_open pending gate]
  · rw [exec_softAttentionReport, softTest_shut shut]
end

/-! ## The filtered lines (R95, R96, R99, R115, R146) -/
section
namespace Sys2Proof.Machine
open Sys2Proof.Safety

/-! ### A change of a filtered line (R99, R115, R148) -/

theorem takeLine_same {r : Line} {v : Bool} (same : r.filtered = v) : r.takeLine v = r := if_pos same

/-- TABLE 5-3: an assertion calls a QUIET level, a release quiets a PENDING one. -/
theorem takeLine_changed {r : Line} {v : Bool} (changed : r.filtered ≠ v) : r.takeLine v = { r with
    filtered := v
    state := if r.state = .quiet ∧ v = true then .pending
      else if r.state = .pending ∧ v = false then .quiet else r.state } := by
  rw [Line.takeLine, if_neg changed]
  congr 1
  cases r.state <;> cases v <;> rfl

theorem takeLine_pin (r : Line) (v : Bool) : (r.takeLine v).pin = r.pin := by
  unfold Line.takeLine
  split <;> rfl

/-- The change is an assertion that DORMANT is waiting for (R115, R148). -/
def State.wokenBy (s : State) (l : LineId) (v : Bool) : Prop :=
  s.mode = .dormant ∧ s.wake = none ∧ v = true ∧ s.lines[l].filtered = false ∧
    s.settings.wakeLevels.getLsbD l.val = true

theorem changeLine_wakes {s : State} {l : LineId} {v : Bool} (wakes : s.wokenBy l v) :
    s.changeLine l v = { s with
      lines := s.lines.set l (s.lines[l].takeLine v)
      wake := some (.attention l)
      crystal := if s.crystal = .off then .starting else s.crystal } := by
  obtain ⟨dormant, unwoken, asserts, released, enabled⟩ := wakes
  have rises : (v && !s.lines[l].filtered && s.wakeEnable l) = true := by
    rw [asserts, released, State.wakeEnable, enabled]
    rfl
  rw [State.changeLine, if_pos rises, State.tellWake, writeLine_mode, writeLine_wake, if_pos ⟨dormant, unwoken⟩,
    ← startedFromOff_eq]
  rfl

theorem changeLine_silent {s : State} {l : LineId} {v : Bool} (silent : ¬ s.wokenBy l v) :
    s.changeLine l v = s.writeLine l (s.lines[l].takeLine v) := by
  unfold State.changeLine
  dsimp only
  split
  · rename_i rises
    simp only [Bool.and_eq_true, Bool.not_eq_true'] at rises
    obtain ⟨⟨asserts, released⟩, enabled⟩ := rises
    exact if_neg fun waiting => silent ⟨waiting.1, waiting.2, asserts, released, enabled⟩
  · rfl

theorem changeLine_lines (s : State) (l : LineId) (v : Bool) :
    (s.changeLine l v).lines = s.lines.set l (s.lines[l].takeLine v) := by
  by_cases wakes : s.wokenBy l v
  · rw [changeLine_wakes wakes]
  · rw [changeLine_silent wakes]
    rfl

/-! ### The pin filter takes its pin (R95, R96) -/

section
variable {s : State} {l : LineId}

theorem filterTakes_agreed (agreed : s.lines[l].pin = s.lines[l].pinFilter) : s.filterTakes l = s := if_pos agreed

/-- In LOOPBACK the filter's result is held aside (R96). -/
theorem filterTakes_loopback (differs : s.lines[l].pin ≠ s.lines[l].pinFilter) (loop : s.mode = .loopback) :
    s.filterTakes l = s.writeLine l { s.lines[l] with pinFilter := s.lines[l].pin } :=
  (if_neg differs).trans (if_pos loop)

theorem filterTakes_pair (differs : s.lines[l].pin ≠ s.lines[l].pinFilter) (pair : s.mode ≠ .loopback) :
    s.filterTakes l =
      (s.writeLine l { s.lines[l] with pinFilter := s.lines[l].pin }).changeLine l s.lines[l].pin :=
  (if_neg differs).trans (if_neg pair)

end

/-- The filter leaves every pin, and the level's own filter agrees with its pin. -/
theorem filterTakes_pins (s : State) (l k : LineId) :
    (s.filterTakes l).lines[k].pin = s.lines[k].pin ∧
      (s.filterTakes l).lines[k].pinFilter = if l = k then s.lines[k].pin else s.lines[k].pinFilter := by
  have wrote {r : Line} (pin : r.pin = s.lines[l].pin) (taken : r.pinFilter = s.lines[l].pin) :
      (s.lines.set l r)[k].pin = s.lines[k].pin ∧
        (s.lines.set l r)[k].pinFilter = if l = k then s.lines[k].pin else s.lines[k].pinFilter := by
    rw [line_set]
    by_cases own : l = k
    · subst own
      rw [if_pos rfl, if_pos rfl]
      exact ⟨pin, taken⟩
    · rw [if_neg own, if_neg own]
      exact ⟨rfl, rfl⟩
  by_cases agreed : s.lines[l].pin = s.lines[l].pinFilter
  · rw [filterTakes_agreed agreed]
    refine ⟨rfl, ?_⟩
    split
    · rename_i own
      exact own ▸ agreed.symm
    · rfl
  · by_cases loop : s.mode = .loopback
    · rw [filterTakes_loopback agreed loop]
      exact wrote rfl rfl
    · rw [filterTakes_pair agreed loop, changeLine_lines, writeLine_lines, lines_set_same, Vector.set_set]
      obtain ⟨-, -, -, -, taken, -⟩ := takeLine_fields { s.lines[l] with pinFilter := s.lines[l].pin } s.lines[l].pin
      exact wrote (takeLine_pin _ _) taken

/-! ### The filter time (R95, R146) -/

/-- The filters run on a time of 0. -/
def State.filtersAtOnce (s : State) : Prop :=
  s.startUp = .done ∧ s.mode ≠ .halted ∧ s.clockSource = .crystal ∧ s.settings.filter = .us0

theorem filtersRun_iff (s : State) : s.filtersRun = true ↔ s.startUp = .done ∧ s.mode ≠ .halted := by
  rw [State.filtersRun, Bool.and_eq_true, decide_eq_true_eq, decide_eq_true_eq]

theorem filtersAtOnce_iff (s : State) : (s.filtersRun && s.filterTimeZero) = true ↔ s.filtersAtOnce := by
  rw [Bool.and_eq_true, filtersRun_iff, State.filterTimeZero, Bool.and_eq_true, decide_eq_true_eq,
    decide_eq_true_eq, and_assoc]
  rfl

theorem exec_filterExpiry (s : State) (l : LineId) :
    exec (.attentionFilterExpiry l) s = .next (if s.filtersRun then s.filterTakes l else s) := rfl

theorem exec_filterExpiry_running {s : State} (l : LineId) (runs : s.filtersRun = true) :
    exec (.attentionFilterExpiry l) s = .next (s.filterTakes l) := congrArg Host.Outcome.next (if_pos runs)

theorem filterTakes_filtersRun (s : State) (l : LineId) : (s.filterTakes l).filtersRun = s.filtersRun := by
  rw [show s.filterTakes l = _ from filterTakes_only s l]
  rfl

/-- While the filters run, each level's filter takes its pin as at its expiry. -/
theorem foldl_filterTakes_eq (levels : List LineId) {s : State} (runs : s.filtersRun = true) :
    levels.foldl State.filterTakes s = levels.foldl (fun t l => afterCommand (.attentionFilterExpiry l) t) s := by
  induction levels generalizing s with
  | nil => rfl
  | cons l rest ih =>
    have takes : afterCommand (.attentionFilterExpiry l) s = s.filterTakes l := if_pos runs
    rw [List.foldl_cons, List.foldl_cons, takes, ih ((filterTakes_filtersRun s l).trans runs)]

theorem foldl_filterTakes_pinFilter (levels : List LineId) (s : State) (k : LineId) :
    (levels.foldl State.filterTakes s).lines[k].pinFilter =
      if k ∈ levels then s.lines[k].pin else s.lines[k].pinFilter := by
  induction levels generalizing s with
  | nil => rfl
  | cons l rest ih =>
    obtain ⟨pin, taken⟩ := filterTakes_pins s l k
    rw [List.foldl_cons, ih, pin, taken]
    by_cases own : l = k
    · simp [own]
    · simp [own, Ne.symm own]

theorem retimeFilters_timed {s : State} (timed : ¬ s.filtersAtOnce) : s.retimeFilters = s :=
  if_neg fun zero => timed ((filtersAtOnce_iff s).1 zero)

theorem retimeFilters_zero {s : State} (zero : s.filtersAtOnce) :
    s.retimeFilters = allLines.foldl State.filterTakes s := if_pos ((filtersAtOnce_iff s).2 zero)

/-! ### The pin changes (R95) -/

/-- The pin's new level written, before the filter takes it. -/
def State.pinMoved (s : State) (l : LineId) (a : Bool) : State := s.writeLine l { s.lines[l] with pin := a }

theorem pinMoved_line (s : State) (l : LineId) (a : Bool) :
    (s.pinMoved l a).lines[l] = { s.lines[l] with pin := a } := lines_set_same _ _ _

/-- The filter's write on top of the pin's is one write of both. -/
theorem pinMoved_filtered (s : State) (l : LineId) (a : Bool) :
    (s.pinMoved l a).writeLine l { (s.pinMoved l a).lines[l] with pinFilter := (s.pinMoved l a).lines[l].pin } =
      s.writeLine l { s.lines[l] with pin := a, pinFilter := a } := by
  rw [pinMoved_line]
  simp only [State.pinMoved, State.writeLine, Vector.set_set]

theorem exec_lineChange_timed {s : State} (l : LineId) (a : Bool) (timed : ¬ s.filtersAtOnce) :
    exec (.attentionLineChange l a) s = .next (s.pinMoved l a) :=
  congrArg Host.Outcome.next (if_neg fun zero => timed ((filtersAtOnce_iff s).1 zero))

theorem exec_lineChange_zero {s : State} (l : LineId) (a : Bool) (zero : s.filtersAtOnce) :
    exec (.attentionLineChange l a) s = .next ((s.pinMoved l a).filterTakes l) :=
  congrArg Host.Outcome.next (if_pos ((filtersAtOnce_iff s).2 zero))

section
variable {s : State} {l : LineId} {a : Bool}

/-- A change that the filter does not see, or that brings the pin back to it, moves the pin alone. -/
theorem exec_lineChange_unseen (unseen : ¬ s.filtersAtOnce ∨ a = s.lines[l].pinFilter) :
    exec (.attentionLineChange l a) s = .next (s.pinMoved l a) := by
  by_cases zero : s.filtersAtOnce
  · have agreed : (s.pinMoved l a).lines[l].pin = (s.pinMoved l a).lines[l].pinFilter := by
      rw [pinMoved_line]
      exact unseen.resolve_left (not_not_intro zero)
    rw [exec_lineChange_zero l a zero, filterTakes_agreed agreed]
  · exact exec_lineChange_timed l a zero

theorem pinMoved_differs (differs : a ≠ s.lines[l].pinFilter) :
    (s.pinMoved l a).lines[l].pin ≠ (s.pinMoved l a).lines[l].pinFilter := by
  rw [pinMoved_line]
  exact differs

theorem exec_lineChange_loopback (zero : s.filtersAtOnce) (differs : a ≠ s.lines[l].pinFilter)
    (loop : s.mode = .loopback) : exec (.attentionLineChange l a) s =
      .next (s.writeLine l { s.lines[l] with pin := a, pinFilter := a }) := by
  rw [exec_lineChange_zero l a zero, filterTakes_loopback (pinMoved_differs differs) loop, pinMoved_filtered]

theorem exec_lineChange_pair (zero : s.filtersAtOnce) (differs : a ≠ s.lines[l].pinFilter)
    (pair : s.mode ≠ .loopback) : exec (.attentionLineChange l a) s =
      .next ((s.writeLine l { s.lines[l] with pin := a, pinFilter := a }).changeLine l a) := by
  rw [exec_lineChange_zero l a zero, filterTakes_pair (pinMoved_differs differs) pair, pinMoved_filtered,
    pinMoved_line]

theorem exec_filterExpiry_idle (idle : s.startUp ≠ .done ∨ s.mode = .halted ∨
    s.lines[l].pin = s.lines[l].pinFilter) : exec (.attentionFilterExpiry l) s = .next s := by
  rw [exec_filterExpiry]
  split
  · rename_i runs
    obtain ⟨started, running⟩ := (filtersRun_iff s).1 runs
    rcases idle with unstarted | halted | agreed
    · exact absurd started unstarted
    · exact absurd halted running
    · rw [filterTakes_agreed agreed]
  · rfl

end

end Sys2Proof.Machine

open Sys2Proof Sys2Proof.Machine Sys2Proof.Safety

/-- Settles O41: a change of a filtered line, a new filter time, a change of the pin and the filter's expiry. -/
theorem filteredLinesDriveTheLevels : Obligations.FilteredLinesDriveTheLevels := by
  refine ⟨fun r v => ⟨takeLine_same, takeLine_changed⟩, fun s l v => ⟨changeLine_silent, changeLine_wakes⟩,
    fun s => ⟨retimeFilters_timed, fun zero => ⟨?_, fun l => ?_⟩⟩,
    fun s l a => ⟨exec_lineChange_unseen, fun zero differs => ⟨exec_lineChange_loopback zero differs,
      exec_lineChange_pair zero differs⟩, exec_filterExpiry_idle, fun started running differs => ?_⟩⟩
  · rw [retimeFilters_zero zero]
    exact foldl_filterTakes_eq allLines ((filtersRun_iff s).2 ⟨zero.1, zero.2.1⟩)
  · rw [retimeFilters_zero zero, foldl_filterTakes_pinFilter]
    exact if_pos (List.mem_finRange l)
  · rw [exec_filterExpiry_running l ((filtersRun_iff s).2 ⟨started, running⟩)]
    exact ⟨fun loop => congrArg _ (filterTakes_loopback differs loop),
      fun pair => congrArg _ (filterTakes_pair differs pair)⟩
end

/-! ## The attention requests (R98, R110, R111, R113) -/
section
namespace Sys2Proof.Machine
open Sys2Proof.Safety

/-! ### SET THRESHOLD (R98) -/

theorem serveSetThreshold_big {n : Byte} (big : 8 ≤ n.toNat) (s : State) :
    serveSetThreshold n s = refused s .badValue := dif_neg big.not_gt

theorem serveSetThreshold_byte (s : State) (k : Fin 8) : serveSetThreshold (byte k.val) s =
    accepted (if k < s.threshold then State.softTests { s with threshold := k }
      else { s with threshold := k }) := by
  have number : (byte k.val).toNat = k.val := by revert k; decide
  have named : (byte k.val).toNat < 8 := number.trans_lt k.isLt
  have level : (⟨(byte k.val).toNat, named⟩ : Fin 8) = k := Fin.ext number
  rw [serveSetThreshold, dif_pos named, level, number]
  rfl

/-! ### UNMASK and RAISE (R110, R111) -/

theorem serveUnmask_other {n : Byte} (other : n.toNat < 4 ∨ 8 ≤ n.toNat) (s : State) :
    serveUnmask n s = refused s .badValue := by
  rw [serveUnmask, lineOf_other n other]

theorem serveUnmask_byte (s : State) (l : LineId) : serveUnmask (byte (4 + l.val)) s =
    if s.lines[l].state = .stuck then
      accepted (s.writeLine l { s.lines[l] with
        rollAttempt := false
        state := if s.lines[l].filtered then .pending else .quiet })
    else refused s .notStuck := by
  rw [serveUnmask, lineOf_byte]

theorem serveRaise_other {n : Byte} (other : n.toNat = 0 ∨ 4 ≤ n.toNat) (s : State) :
    serveRaise n s = refused s .badValue := by
  rw [serveRaise, softOf_other n other]

theorem serveRaise_byte (s : State) (l : SoftId) : serveRaise (byte (1 + l.val)) s = accepted (s.addOrigin l 1) := by
  rw [serveRaise, softOf_byte]

/-! ### SET LOOP ATTENTION (R113) -/

/-- A quantity of four bytes is read back from them. -/
theorem word32_bytes (w : BitVec 32) :
    word32 (w.extractLsb' 0 8) (w.extractLsb' 8 8) (w.extractLsb' 16 8) (w.extractLsb' 24 8) = w := by
  have high : w.extractLsb' 24 8 ++ w.extractLsb' 16 8 = w.extractLsb' 16 16 :=
    BitVec.extractLsb'_append_extractLsb'_eq_extractLsb' rfl
  have upper : w.extractLsb' 16 16 ++ w.extractLsb' 8 8 = w.extractLsb' 8 24 :=
    BitVec.extractLsb'_append_extractLsb'_eq_extractLsb' rfl
  have whole : w.extractLsb' 8 24 ++ w.extractLsb' 0 8 = w.extractLsb' 0 32 :=
    BitVec.extractLsb'_append_extractLsb'_eq_extractLsb' rfl
  rw [word32, high, upper, whole, BitVec.extractLsb'_eq_self]

/-- A SET LOOP ATTENTION body carries its level, its set and its cause. -/
theorem readSetLoopAttention_bytes32 (l : Byte) (w : BitVec 32) (c : Byte) :
    readSetLoopAttention (l :: (bytes32 w ++ [c])) = some (.setLoopAttention l w c) :=
  congrArg (fun v => some (Request.setLoopAttention l v c)) (word32_bytes w)

theorem stationSetOf_high {w : BitVec 32} (high : w.getLsbD 31 = true) : stationSetOf w = none :=
  if_pos (w.msb_eq_getLsbD_last.trans high)

theorem stationSetOf_setWidth (set : StationSet) : stationSetOf (set.setWidth 32) = some set := by
  have clear : ¬ (set.setWidth 32).msb = true := by
    rw [BitVec.msb_eq_getLsbD_last, BitVec.getLsbD_setWidth, BitVec.getLsbD_of_ge set _ (by decide), Bool.and_false]
    exact Bool.false_ne_true
  rw [stationSetOf, if_neg clear, BitVec.setWidth_setWidth_of_le _ (by decide), BitVec.setWidth_eq]

/-- Any value out of its range is refused, before the mode is judged (log 20). -/
theorem serveSetLoopAttention_bad {n cause : Byte} {set : BitVec 32}
    (bad : n.toNat < 4 ∨ 8 ≤ n.toNat ∨ set.getLsbD 31 = true ∨ 16 ≤ cause.toNat) (s : State) :
    serveSetLoopAttention n set cause s = refused s .badValue := by
  unfold serveSetLoopAttention
  split
  · rename_i l stations named carried
    refine dif_neg fun small => ?_
    rcases bad with below | above | high | big
    · exact nomatch named.symm.trans (lineOf_other n (.inl below))
    · exact nomatch named.symm.trans (lineOf_other n (.inr above))
    · exact nomatch carried.symm.trans (stationSetOf_high high)
    · omega
  · rfl

theorem serveSetLoopAttention_byte (s : State) (l : LineId) (set : StationSet) (cause : Fin 16) :
    serveSetLoopAttention (byte (4 + l.val)) (set.setWidth 32) (byte cause.val) s =
      if s.mode = .loopback then
        accepted ((s.writeLine l { s.lines[l] with loopSet := set, loopCause := cause }).changeLine l (set != 0))
      else refused s .mode := by
  have number : (byte cause.val).toNat = cause.val := by revert cause; decide
  have named : (byte cause.val).toNat < 16 := number.trans_lt cause.isLt
  have code : (⟨(byte cause.val).toNat, named⟩ : Fin 16) = cause := Fin.ext number
  rw [serveSetLoopAttention, lineOf_byte, stationSetOf_setWidth]
  dsimp only
  rw [dif_pos named, code]

/-- Outside DORMANT a change of a line that has just been written is one write (R148). -/
theorem changeLine_written {s : State} (awake : s.mode ≠ .dormant) (l : LineId) (r : Line) (v : Bool) :
    (s.writeLine l r).changeLine l v = s.writeLine l (r.takeLine v) := by
  have silent : ¬ (s.writeLine l r).wokenBy l v := fun wakes => awake wakes.1
  rw [changeLine_silent silent, writeLine_lines, lines_set_same, State.writeLine,
    writeLine_lines, Vector.set_set]
  rfl

theorem serveSetLoopAttention_loopback (s : State) (l : LineId) (set : StationSet) (cause : Fin 16)
    (loop : s.mode = .loopback) : serveSetLoopAttention (byte (4 + l.val)) (set.setWidth 32) (byte cause.val) s =
      accepted (s.writeLine l
        (Line.takeLine { s.lines[l] with loopSet := set, loopCause := cause } (set != 0))) := by
  have awake : s.mode ≠ .dormant := by rw [loop]; nofun
  rw [serveSetLoopAttention_byte, if_pos loop, changeLine_written awake]

end Sys2Proof.Machine

open Sys2Proof Sys2Proof.Machine Sys2Proof.Safety

/-- Settles O40: each request's values out of range, then its effect on the level that it names. -/
theorem attentionRequestsActOnTheirLevel : Obligations.AttentionRequestsActOnTheirLevel := by
  intro tag s free running
  have thresholds (n : Byte) {status change} (serves : _) :
      Answered (.setThreshold tag n) tag (.setThreshold n) s status [] change :=
    answered_running (r := .setThreshold n) free running tag rfl serves
  have unmasks (n : Byte) {status change} (serves : _) :
      Answered (.unmask tag n) tag (.unmask n) s status [] change :=
    answered_running (r := .unmask n) free running tag rfl serves
  have raises (n : Byte) {status change} (serves : _) :
      Answered (.raise tag n) tag (.raise n) s status [] change :=
    answered_running (r := .raise n) free running tag rfl serves
  have loops (n cause : Byte) (set : BitVec 32) {status change} (serves : _) :
      Answered (.setLoopAttention tag n set cause) tag (.setLoopAttention n set cause) s status [] change :=
    answered_running (r := .setLoopAttention n set cause) free running tag (readSetLoopAttention_bytes32 n set cause)
      serves
  exact ⟨fun n big => thresholds n (serveSetThreshold_big big _),
    fun k => thresholds _ (serveSetThreshold_byte _ k),
    fun n other => unmasks n (serveUnmask_other other _),
    fun l => ⟨fun stuck => unmasks _ ((serveUnmask_byte _ l).trans (if_pos stuck)),
      fun unstuck => unmasks _ ((serveUnmask_byte _ l).trans (if_neg unstuck))⟩,
    fun n other => raises n (serveRaise_other other _),
    fun l => raises _ (serveRaise_byte _ l),
    fun n cause set bad => loops n cause set (serveSetLoopAttention_bad bad _),
    fun l set cause => ⟨
      fun pair => loops _ _ _ ((serveSetLoopAttention_byte _ l set cause).trans (if_neg pair)),
      fun loop => loops _ _ _ (serveSetLoopAttention_loopback _ l set cause loop)⟩⟩
end

/-! ## The bounds of the timer records (R119, R123) -/
section
namespace Sys2Proof.Machine
open Sys2Proof.Safety

/-! ### What leaves the timer records as they were -/

section
variable {s t : State}

theorem OnlyTables.timers (h : OnlyTables s t) : t.timers = s.timers := by
  unfold OnlyTables at h
  rw [h]

theorem OnlyLines.timers (h : OnlyLines s t) : t.timers = s.timers := by
  unfold OnlyLines at h
  rw [h]

theorem OnlySoft.timers (h : OnlySoft s t) : t.timers = s.timers := by
  unfold OnlySoft at h
  rw [h]

theorem OnlyMode.timers (h : OnlyMode s t) : t.timers = s.timers := by
  unfold OnlyMode at h
  rw [h]

end

theorem formAnswer_timers (s : State) (x : Exchange) : (s.formAnswer x).timers = s.timers := by
  rw [Standing.formAnswer_only]

theorem startExchange_timers (s : State) (x : Exchange) (active : Bool) :
    (s.startExchange x active).timers = s.timers := by
  have marked : (s.markStarted x).timers = s.timers := by
    unfold State.markStarted
    split
    · rfl
    · split <;> rfl
    · rfl
  unfold State.startExchange State.beginSending
  dsimp only
  split
  · exact marked
  · split <;> exact marked

theorem serveStart_timers (set : SlotSet) (s : State) : (serveStart set s).1.timers = s.timers := by
  unfold serveStart
  split
  · rfl
  · split
    · split
      · rfl
      · exact (startAll_only _ s).tables.timers
    · rfl

theorem serveSetMode_timers (code : Byte) (s : State) : (serveSetMode code s).1.timers = s.timers := by
  unfold serveSetMode State.takeMode
  split
  · rfl
  · split
    · rfl
    · dsimp only [accepted]
      split
      · rfl
      · split
        · rfl
        · exact (changeMode_only s _ .request).timers

theorem serveWriteSettings_timers (mask : Byte) (values : List Byte) (s : State) :
    (serveWriteSettings mask values s).1.timers = s.timers := by
  unfold serveWriteSettings State.settingsWritten
  split
  · rfl
  · split
    · rfl
    · split
      · rfl
      · dsimp only [accepted]
        split
        · exact (retimeFilters_only _).timers
        · rfl

/-- No request but SET TIMER and READ TIMERS reaches the timer records (R127, R131). -/
theorem serve_timers (s : State) (r : Request)
    (programs : ∀ n src reload soft flags, r ≠ .setTimer n src reload soft flags)
    (clears : ∀ clear, r ≠ .readTimers clear) : (serve r s).1.timers = s.timers := by
  cases r with
  | setTimer n src reload soft flags => exact absurd rfl (programs n src reload soft flags)
  | readTimers clear => exact absurd rfl (clears clear)
  | start set => exact serveStart_timers set s
  | setMode code => exact serveSetMode_timers code s
  | writeSettings mask values => exact serveWriteSettings_timers mask values s
  | abortAll => exact (abortAll_only s).tables.timers
  | abortSlot n =>
    dsimp only [serve, serveAbortSlot]
    split
    · exact (abortOne_only s _).tables.timers
    · rfl
  | setThreshold k =>
    dsimp only [serve, serveSetThreshold, accepted]
    split
    · dsimp only
      split
      · exact (softTests_only _).timers
      · rfl
    · rfl
  | raise level =>
    dsimp only [serve, serveRaise]
    split
    · rfl
    · exact (addOrigin_only s _ _).timers
  | setLoopAttention level set cause =>
    dsimp only [serve, serveSetLoopAttention]
    split
    · split
      · split
        · exact (changeLine_only _ _ _).timers
        · rfl
      · rfl
    · rfl
  | fetch count =>
    dsimp only [serve, serveFetch]
    split
    · dsimp only
      split
      · rfl
      · exact (softTests_only _).timers
    · rfl
  | stepEnable | stepDisable | readAttention | reset | clearCause | readFault | clearFault | readSettings |
      identify | status => rfl
  | loadSlot | releaseSlot | readSlot | stepAdvance | enroll | withdraw | restore | setCauseMask | readStation |
      unmask =>
    dsimp only [serve, serveLoadSlot, serveReleaseSlot, serveReadSlot, serveStepAdvance, serveEnroll, serveWithdraw,
      serveRestore, serveSetCauseMask, serveReadStation, serveUnmask]
    repeat' split
    all_goals rfl

/-! ### The relation -/

/-- Every timer record is in its bounds. -/
structure TimersFit (s : State) : Prop where
  bounded : TimersBounded s

namespace TimersFit
variable {s t : State}

theorem of_same (h : TimersFit s) (same : t.timers = s.timers) : TimersFit t :=
  ⟨fun n => by rw [same]; exact h.bounded n⟩

/-- A change of every record that keeps the bounds of each. -/
theorem mapped (h : TimersFit s) {f : Timer → Timer} (keeps : ∀ n r, TimerBounded n r → TimerBounded n (f r))
    (mapped : t.timers = mapAll f s.timers) : TimersFit t :=
  ⟨fun n => by rw [mapped, mapAll_at]; exact keeps n _ (h.bounded n)⟩

theorem writeTimer (h : TimersFit s) (n : TimerId) {r : Timer} (bounded : TimerBounded n r) :
    TimersFit (s.writeTimer n r) := ⟨fun m => by
  rw [writeTimer_timers, timer_set]
  split
  · rename_i same
    exact same ▸ bounded
  · exact h.bounded m⟩

theorem reset : TimersFit State.reset := ⟨reset_records.2.1⟩

/-! ### Underflows and ticks (R122, R123, R125) -/

theorem tickBase (h : TimersFit s) (src : TimerSource) : TimersFit (s.tickBase src) :=
  h.mapped (fun _ _ bounded => Standing.tick_bounded bounded src) rfl

theorem handOut (h : TimersFit s) (n : TimerId) : TimersFit (s.handOut n) :=
  (h.writeTimer n (Standing.atUnderflow_bounded (h.bounded n))).of_same (handOut_timers s n)

theorem countDown_bounded {n : TimerId} {r : Timer} (h : TimerBounded n r) (counting : 1 < r.count) :
    TimerBounded n { r with count := r.count - 1 } := by
  obtain ⟨low, high, count, -, tally, cascade⟩ := h
  exact ⟨low, high, (Nat.sub_le _ _).trans count, fun _ => Nat.le_sub_of_add_le counting, tally, cascade⟩

theorem underflow (fuel : Nat) (h : TimersFit s) (n : TimerId) : TimersFit (State.underflow fuel s n) := by
  induction fuel generalizing s n with
  | zero => exact h
  | succ fuel ih =>
    have handed := h.handOut n
    unfold State.underflow
    dsimp only
    split
    · split
      · split
        · exact handed.writeTimer _ (countDown_bounded (handed.bounded _) ‹_›)
        · exact ih handed _
      · exact handed
    · exact handed

/-! ### Faults and the end of an exchange -/

/-- Entry to HALTED clears what was due and nothing else of a record (R134). -/
theorem takeFault (h : TimersFit s) (f : FaultRecord) : TimersFit (s.takeFault f) := by
  unfold State.takeFault
  split
  · exact h.of_same rfl
  · split
    · exact h.of_same rfl
    · split
      · exact h
      · exact h.mapped (f := fun r => { r with due := false }) (fun _ _ bounded => bounded) rfl

theorem forceHold (h : TimersFit s) (c : ModeCause) : TimersFit (s.forceHold c) :=
  h.of_same (forceHold_only s c).timers

theorem release (h : TimersFit s) : TimersFit s.release := by
  have freed : TimersFit { s with reserved := 0, exchange := none, loopAnswer := none } := h.of_same rfl
  exact freed.of_same (softTests_only _).timers

theorem dispatcherAfter (h : TimersFit s) (x : Exchange) : TimersFit (s.dispatcherAfter x) := h.of_same rfl

theorem endExchange (h : TimersFit s) (x : Exchange) (o : Outcome) : TimersFit (s.endExchange x o) := by
  have told : TimersFit (s.tablesTold x o) := h.of_same (tablesTold_only s x o).timers
  have stuck : TimersFit ((s.tablesTold x o).linkStuck x o) := by
    unfold State.linkStuck
    split
    · exact (told.takeFault _).forceHold _
    · exact told
  have reported : TimersFit (((s.tablesTold x o).linkStuck x o).stepReport x o) := by
    refine stuck.of_same ?_
    unfold State.stepReport
    split <;> rfl
  exact (reported.release.dispatcherAfter x).of_same (completeRequested_only _).timers

theorem abandonFlight (h : TimersFit s) : TimersFit s.abandonFlight := by
  unfold State.abandonFlight
  split
  · exact h
  · exact h.endExchange _ _

theorem takeFaultElsewhere (h : TimersFit s) (f : FaultRecord) : TimersFit (s.takeFaultElsewhere f) := by
  unfold State.takeFaultElsewhere
  split
  · exact (h.takeFault f).abandonFlight
  · exact h.takeFault f

/-! ### A taking (R33, R34) -/

theorem tested (h : TimersFit s) (x : Exchange) (u : Upset) {passed : State → State}
    (passes : TimersFit (passed (Standing.reservedFor s x u))) : TimersFit (s.tested x u passed) := by
  have upset : TimersFit (s.upset x u) := h.of_same (Standing.upset_only s x u).tables.timers
  rcases Standing.tested_cases s x u passed with ⟨i, f, -, ends⟩ | ⟨st, f, ends⟩ | ends
  · rw [ends]
    exact (upset.of_same (takingFailed_only _ i).timers).takeFaultElsewhere f
  · rw [ends]
    exact (upset.of_same (takingLost_timers _ st)).takeFaultElsewhere f
  · rw [ends]
    exact passes

theorem look (h : TimersFit s) (active : Bool) (u : Upset) : TimersFit (s.look active u) := by
  unfold State.look
  split
  · split
    · exact h
    · rename_i x _
      have reserved : TimersFit (Standing.reservedFor s x u) := h.of_same (Standing.upset_only s x u).tables.timers
      exact h.tested x u (reserved.of_same (startExchange_timers _ x active))
  · exact h

/-! ### Clocks and resets -/

theorem findLoss (h : TimersFit s) : TimersFit s.findLoss := by
  have out : TimersFit (Standing.crystalOut s) := h.of_same rfl
  unfold State.findLoss State.crystalLost
  split
  · split
    · exact h.of_same rfl
    · dsimp only
      split
      · exact (out.abandonFlight.takeFaultElsewhere _).forceHold _
      · exact (out.takeFaultElsewhere _).forceHold _
  · exact h

theorem crystalReturns (h : TimersFit s) : TimersFit s.crystalReturns := h.of_same (retimeFilters_only _).timers

theorem leaveDormant (h : TimersFit s) : TimersFit s.leaveDormant := h.of_same (softTests_only _).timers

theorem wakeOnLowSpeed (h : TimersFit s) : TimersFit s.wakeOnLowSpeed := by
  unfold State.wakeOnLowSpeed
  dsimp only
  split
  · exact (h.takeFault _).leaveDormant
  · exact h.takeFault _

theorem dormantReplyEnds (h : TimersFit s) : TimersFit s.dormantReplyEnds := by
  have ended : TimersFit { s with reply := none, holding := s.holding.tail } := h.of_same rfl
  unfold State.dormantReplyEnds
  dsimp only
  split
  · exact h.of_same rfl
  · split
    · exact ended.crystalReturns.leaveDormant
    · exact ended

theorem beginReset (s : State) (c : ResetCause) : TimersFit (s.beginReset c) := reset.of_same rfl

theorem endReset (h : TimersFit s) : TimersFit s.endReset := by
  unfold State.endReset
  split
  · exact h.of_same rfl
  · exact h

/-! ### Requests (R127, R131) -/

/-- The record that SET TIMER leaves is in bounds, a tick that it meets or none (R129). -/
theorem serveSetTimer (h : TimersFit s) (timer src : Byte) (reload : Half) (soft flags : Byte) :
    TimersFit (Machine.serveSetTimer timer src reload soft flags s).1 := by
  unfold Machine.serveSetTimer
  split
  · exact h
  · split
    · exact h
    · rename_i programs
      have bounded := Standing.timerProgrammed_bounded programs
      refine h.writeTimer _ ?_
      unfold State.recordAfterSet
      split
      · exact Standing.tick_bounded bounded _
      · exact bounded

theorem serveReadTimers (h : TimersFit s) (clear : Byte) : TimersFit (Machine.serveReadTimers clear s).1 := by
  unfold Machine.serveReadTimers
  split
  · exact h
  · split
    · refine h.mapped (fun n r bounded => ?_) rfl
      obtain ⟨low, high, count, enabled, -, cascade⟩ := bounded
      exact ⟨low, high, count, enabled, Nat.zero_le _, cascade⟩
    · exact h

theorem serve (h : TimersFit s) (r : Request) : TimersFit (serve r s).1 := by
  by_cases programs : ∃ n src reload soft flags, r = .setTimer n src reload soft flags
  · obtain ⟨n, src, reload, soft, flags, rfl⟩ := programs
    exact h.serveSetTimer n src reload soft flags
  · by_cases clears : ∃ clear, r = .readTimers clear
    · obtain ⟨clear, rfl⟩ := clears
      exact h.serveReadTimers clear
    · exact h.of_same (serve_timers s r (fun n src reload soft flags is => programs ⟨n, src, reload, soft, flags, is⟩)
        (fun clear is => clears ⟨clear, is⟩))

theorem judge (h : TimersFit s) (f : Frame) : TimersFit (judge f s).1 := by
  have restarted : TimersFit s.restartSilence := by
    unfold State.restartSilence
    split <;> exact h.of_same rfl
  unfold Machine.judge
  repeat' split
  · exact h
  · exact restarted
  · exact restarted
  · exact restarted
  · exact restarted.serve _

theorem takeHead (h : TimersFit s) : TimersFit s.takeHead := by
  unfold State.takeHead
  split
  · exact h
  · exact (h.judge _).of_same rfl

theorem frameArrives (h : TimersFit s) (f : Frame) : TimersFit (s.frameArrives f) := by
  unfold State.frameArrives
  split
  · dsimp only
    split
    · exact h.of_same rfl
    · split
      · have held : TimersFit { s with intake := .search, holding := s.holding ++ [f] } := h.of_same rfl
        split
        · exact held.takeHead
        · exact held
      · exact h.of_same rfl
  · exact h

theorem nextReply (h : TimersFit s) : TimersFit s.nextReply := by
  unfold State.nextReply
  split
  · split
    · exact h
    · exact h.of_same rfl
  · exact h.takeHead

theorem portReplyEnds (h : TimersFit s) (r : Reply) : TimersFit (s.portReplyEnds r) := by
  unfold State.portReplyEnds
  split
  · have counted : TimersFit { s with overrun := none, reply := none } := h.of_same rfl
    exact counted.nextReply
  · have told : TimersFit { s with holding := s.holding.tail, reply := none } := h.of_same rfl
    exact told.nextReply

end TimersFit

/-- Every event keeps the timer records in their bounds. -/
theorem timersFit_kept : KeptByEvents TimersFit where
  queue _ _ h := h.of_same rfl
  intake _ _ h := h.of_same rfl
  frame _ f h := h.frameArrives f
  portReplyEnds _ r h _ _ := h.portReplyEnds r
  dormantReplyEnds _ h _ := h.dormantReplyEnds
  commandReset s _ _ := (TimersFit.beginReset s .command).endReset
  silence s h := h.of_same (silenceExpires_only s).timers
  look _ active u h := h.look active u
  loss _ h := h.findLoss
  testedBehind _ x u h _ _ _ _ := h.findLoss.tested x u h.findLoss
  clearBehind _ h _ _ _ := h.findLoss.of_same rfl
  lineIdle _ _ h _ _ _ := h.of_same rfl
  ends _ x o h _ _ := h.endExchange x o
  answerForms s x h _ _ := h.of_same (formAnswer_timers s x)
  commandLeaves _ _ h _ := h.of_same rfl
  answerStarts _ _ h _ := h.of_same rfl
  underflow _ n h := h.underflow 8 n
  tick _ src h := h.tickBase src
  divider _ _ h := h.of_same rfl
  uptime _ _ h := h.of_same rfl
  silenceTick _ h := h.of_same rfl
  pin _ _ _ h := h.of_same rfl
  filter s l h _ := h.of_same (filterTakes_only s l).timers
  softTest s l h := h.of_same (softTest_only s l).timers
  wakeTold s w h := h.of_same (tellWake_only s w).timers
  wakeOnCrystal _ h _ := h.crystalReturns.leaveDormant
  wakeOnLowSpeed _ h _ := h.wakeOnLowSpeed
  crystalReturns _ h _ _ := h.crystalReturns
  startsUp s h _ := by
    have done : TimersFit { s with startUp := .done } := h.of_same rfl
    exact done.crystalReturns
  startTimeout s h _ := by
    have done : TimersFit { s with startUp := .done } := h.of_same rfl
    exact done.takeFault _
  powerReset s _ := (TimersFit.beginReset s .power).of_same rfl
  supplyRises _ h _ := h.of_same rfl
  supplyGood s h _ := by
    have good : TimersFit { s with supply := .good } := h.of_same rfl
    exact good.endReset
  pinReset s _ _ := (TimersFit.beginReset s .pin).of_same rfl
  resetPin _ _ h := h.of_same rfl
  pinNegated s h _ := by
    have negated : TimersFit { s with resetPin := false, pinResetHeld := false } := h.of_same rfl
    exact negated.endReset

end Sys2Proof.Machine

open Sys2Proof.Machine in
/-- Settles O56: only underflows, ticks, SET TIMER, READ TIMERS, entry to HALTED and a reset write a timer record,
and each keeps it in its bounds. -/
theorem stepKeepsTimersBounded : Obligations.StepKeepsTimersBounded := by
  intro s t bounded runs
  exact (timersFit_kept.step ⟨bounded⟩ runs).bounded
end

/-! ## The ticks of the two dividers (R120 to R122, R142, R159) -/
section
namespace Sys2Proof.Machine
open Sys2Proof.Safety

/-! ### What earlier ticks have left due -/

/-- Nothing that earlier ticks have made due waits to be taken (logs 8, 10). -/
structure Settled (s : State) : Prop where
  due : ∀ n : TimerId, s.timers[n].due = false
  silence : s.mode ≠ .run ∨ s.silence ≠ some 0

variable {s : State}

theorem silenceExpires_settled (quiet : s.mode ≠ .run ∨ s.silence ≠ some 0) : s.silenceExpires = s :=
  if_neg fun expires => quiet.elim (· expires.1) (· expires.2)

theorem Settled.catchUp (settled : Settled s) : s.catchUp = s := by
  rw [State.catchUp, takeDue_none s settled.due, silenceExpires_settled settled.silence]

/-- An expiry leaves HOLD behind, so RUN never stands with its timer at 0 (R143). -/
theorem silenceExpires_run (s : State) (run : s.silenceExpires.mode = .run) : s.silenceExpires.silence ≠ some 0 := by
  by_cases expires : s.mode = .run ∧ s.silence = some 0
  · rw [State.silenceExpires, if_pos expires, changeMode_mode] at run
    cases run
  · rw [State.silenceExpires, if_neg expires] at run ⊢
    exact fun zero => expires ⟨run, zero⟩

theorem catchUp_settled (s : State) : Settled s.catchUp where
  due n := by
    rw [State.catchUp, (silenceExpires_only s.takeDue).timers]
    exact takeDue_due s n
  silence := Decidable.not_or_of_imp (silenceExpires_run s.takeDue)

theorem catchUp_catchUp (s : State) : s.catchUp.catchUp = s.catchUp := (catchUp_settled s).catchUp

theorem catchUp_startUp (s : State) : s.catchUp.startUp = s.startUp := by
  have due := takeDue_only s
  have expires := silenceExpires_only s.takeDue
  unfold OnlyUnderflow at due
  unfold OnlyMode at expires
  rw [State.catchUp, expires, due]

theorem catchUp_clockSource (s : State) : s.catchUp.clockSource = s.clockSource := by
  have due := takeDue_only s
  have expires := silenceExpires_only s.takeDue
  unfold OnlyUnderflow at due
  unfold OnlyMode at expires
  rw [State.catchUp, expires, due]

/-- The expiry leads from RUN to HOLD, and no underflow changes the mode. -/
theorem catchUp_running (running : s.mode ≠ .halted) : s.catchUp.mode ≠ .halted := by
  have due := takeDue_only s
  unfold OnlyUnderflow at due
  have same : s.takeDue.mode = s.mode := by rw [due]
  unfold State.catchUp State.silenceExpires
  split
  · rw [changeMode_mode]
    nofun
  · rw [same]
    exact running

/-! ### A timer's record at the ticks of a divider (R122) -/

/-- A timer takes a tick of a divider that gives the ticks of these bases. -/
def Timer.tickOf (sources : List TimerSource) (r : Timer) : Timer :=
  if r.enabled = true ∧ r.source ∈ sources then
    (if 1 < r.count then { r with count := r.count - 1 } else { r with due := true })
  else r

theorem tickOf_congr {sources others : List TimerSource} {r : Timer} (same : r.source ∈ sources ↔ r.source ∈ others) :
    r.tickOf sources = r.tickOf others := by
  simp only [Timer.tickOf, same]

theorem tick_eq_tickOf (src : TimerSource) (r : Timer) : r.tick src = r.tickOf [src] := by
  simp only [Timer.tick, Timer.tickOf, List.mem_singleton, Bool.and_eq_true, decide_eq_true_eq]

theorem tick_other {src : TimerSource} {r : Timer} (other : r.source ≠ src) : r.tick src = r :=
  if_neg fun ticks => other (of_decide_eq_true (Bool.and_eq_true_iff.1 ticks).2)

theorem tick_source (src : TimerSource) (r : Timer) : (r.tick src).source = r.source := by
  unfold Timer.tick
  split
  · split <;> rfl
  · rfl

/-- No timer is of both bases of a divider, so the second tick reaches none that the first has. -/
theorem tick_tick {src other : TimerSource} (differ : src ≠ other) (r : Timer) :
    (r.tick src).tick other = r.tickOf [src, other] := by
  by_cases first : r.source = src
  · have passes : (r.tick src).source ≠ other := by
      rw [tick_source, first]
      exact differ
    rw [tick_other passes, tick_eq_tickOf]
    exact tickOf_congr (by simp [first])
  · rw [tick_other first, tick_eq_tickOf]
    exact tickOf_congr (by simp [first])

theorem mapAll_mapAll {α β γ : Type} {n : Nat} (f : β → γ) (g : α → β) (v : Vector α n) :
    mapAll f (mapAll g v) = mapAll (fun x => f (g x)) v := by
  ext k bound
  simp only [getElem_mapAll]

theorem tickBase_tickBase {src other : TimerSource} (differ : src ≠ other) (s : State) :
    (s.tickBase src).tickBase other = { s with timers := mapAll (Timer.tickOf [src, other]) s.timers } := by
  have both : (fun r => Timer.tick other (r.tick src)) = Timer.tickOf [src, other] := funext (tick_tick differ)
  rw [State.tickBase, State.tickBase, mapAll_mapAll, both]

/-- A divider's first base ticks, and its second with it where `p` says so. -/
theorem tickBases_eq (src other : TimerSource) (differ : src ≠ other) (p : Prop) [Decidable p] (s : State) :
    (if p then (s.tickBase src).tickBase other else s.tickBase src) =
      { s with timers := mapAll (Timer.tickOf (if p then [src, other] else [src])) s.timers } := by
  split
  · exact tickBase_tickBase differ s
  · rw [State.tickBase, funext (tick_eq_tickOf src)]

/-! ### A tick of each divider (R120, R142) -/

/-- BASE_100US ticks with every tenth tick of the fine divider. -/
theorem fineTick_eq (s : State) : s.fineTick = { s with
    fineDivider := s.fineDivider + 1
    timers := mapAll (Timer.tickOf (if s.fineDivider = 9 then [.base10us, .base100us] else [.base10us]))
      s.timers } := by
  have tenth : s.fineDivider + 1 = 0 ↔ s.fineDivider = 9 := by
    generalize s.fineDivider = k
    revert k
    decide
  exact (if_congr tenth rfl rfl).trans (tickBases_eq .base10us .base100us (by decide) (s.fineDivider = 9)
    { s with fineDivider := s.fineDivider + 1 })

/-- BASE_10MS ticks where the uptime becomes a multiple of 10. -/
theorem milliTick_eq (s : State) : s.milliTick = { s with
    uptime := s.uptime + 1
    timers := mapAll (Timer.tickOf (if (s.uptime + 1).toNat % 10 = 0 then [.base1ms, .base10ms] else [.base1ms]))
      s.timers
    silence := s.silence.map (fun k => k - 1) } :=
  congrArg State.silenceTick (tickBases_eq .base1ms .base10ms (by decide) ((s.uptime + 1).toNat % 10 = 0)
    { s with uptime := s.uptime + 1 })

/-! ### The two commands -/

/-- The fine divider ticks on the crystal, outside a reset and HALTED (TABLE 6-3). -/
theorem baseRuns_fine : s.baseRuns .base10us = true ↔
    s.startUp ≠ .inReset ∧ s.mode ≠ .halted ∧ s.clockSource = .crystal := by
  simp only [State.baseRuns, Bool.and_eq_true, decide_eq_true_eq, and_assoc]

theorem exec_fine_idle (rests : ¬ s.baseRuns .base10us = true) : exec (.timeBaseTick .fine) s = .next s :=
  congrArg Host.Outcome.next (if_neg rests)

theorem exec_fine_runs (runs : s.baseRuns .base10us = true) :
    exec (.timeBaseTick .fine) s = .next s.catchUp.fineTick :=
  congrArg Host.Outcome.next (if_pos runs)

theorem exec_milli_reset (reset : s.startUp = .inReset) : exec (.timeBaseTick .millisecond) s = .next s :=
  congrArg Host.Outcome.next (if_pos reset)

theorem exec_milli_halted (started : s.startUp ≠ .inReset) (halted : s.mode = .halted) :
    exec (.timeBaseTick .millisecond) s = .next { s with uptime := s.uptime + 1 } :=
  congrArg Host.Outcome.next ((if_neg started).trans (if_pos halted))

theorem exec_milli_runs (started : s.startUp ≠ .inReset) (running : s.mode ≠ .halted) :
    exec (.timeBaseTick .millisecond) s = .next s.catchUp.milliTick :=
  congrArg Host.Outcome.next ((if_neg started).trans (if_neg running))

/-- What is due is taken first, whether with the tick or before it. -/
theorem exec_fine_catchUp (runs : s.baseRuns .base10us = true) :
    exec (.timeBaseTick .fine) s = exec (.timeBaseTick .fine) s.catchUp := by
  obtain ⟨started, running, crystal⟩ := baseRuns_fine.1 runs
  have still : s.catchUp.baseRuns .base10us = true := baseRuns_fine.2
    ⟨by rw [catchUp_startUp]; exact started, catchUp_running running, (catchUp_clockSource s).trans crystal⟩
  rw [exec_fine_runs runs, exec_fine_runs still, catchUp_catchUp]

theorem exec_milli_catchUp (started : s.startUp ≠ .inReset) (running : s.mode ≠ .halted) :
    exec (.timeBaseTick .millisecond) s = exec (.timeBaseTick .millisecond) s.catchUp := by
  have still : s.catchUp.startUp ≠ .inReset := by
    rw [catchUp_startUp]
    exact started
  rw [exec_milli_runs started running, exec_milli_runs still (catchUp_running running), catchUp_catchUp]

end Sys2Proof.Machine

open Sys2Proof.Machine in
/-- Settles O46: what is due and its taking, then each divider's tick of a state in which nothing is due. -/
theorem ticksReachTheirTimers : Obligations.TicksReachTheirTimers := by
  refine ⟨fun s => ⟨rfl, (catchUp_settled s).due, silenceExpires_run s.takeDue⟩, fun s => ?_⟩
  intro ticked settled fineRuns
  have nothingDue : settled → s.catchUp = s := fun ⟨due, silence⟩ => Settled.catchUp ⟨due, silence⟩
  refine ⟨fun rests => exec_fine_idle (mt baseRuns_fine.1 rests), fun runs rests => ?_,
    fun runs => exec_fine_catchUp (baseRuns_fine.2 runs), exec_milli_reset, exec_milli_halted,
    fun started running rests => ?_, exec_milli_catchUp⟩
  · rw [exec_fine_runs (baseRuns_fine.2 runs), nothingDue rests, fineTick_eq]
    rfl
  · rw [exec_milli_runs started running, nothingDue rests, milliTick_eq]
    rfl
end

/-! ## The timer requests (R120, R127 to R129, R131) -/
section
namespace Sys2Proof.Machine
open Sys2Proof.Safety

/-! ### The values of SET TIMER (R127) -/

theorem timerSource_ofCode_code (src : TimerSource) : TimerSource.ofCode src.code = some src := by cases src <;> rfl

theorem timerSource_ofCode_big {b : Byte} (big : 5 ≤ b.toNat) : TimerSource.ofCode b = none := by
  have others : ∀ k : Nat, k < 5 → b ≠ BitVec.ofNat 8 k := by
    rintro k small rfl
    rw [BitVec.toNat_ofNat] at big
    omega
  simp [TimerSource.ofCode, others 0, others 1, others 2, others 3, others 4]

/-- One value out of its range is enough (R127). -/
theorem timerProgrammed_bad {n : TimerId} {src : Byte} {reload : Half} {soft flags : Byte}
    (bad : 5 ≤ src.toNat ∨ (src = 4 ∧ n = 0) ∨ reload = 0 ∨ 4095 < reload.toNat ∨ 4 ≤ soft.toNat ∨
      8 ≤ flags.toNat) :
    timerProgrammed n src reload soft flags = none := by
  unfold timerProgrammed
  split
  · rfl
  · rename_i source coded
    split
    · split
      · rfl
      · rename_i small chain
        refine if_pos ?_
        rcases bad with unknown | ⟨rfl, first⟩ | rfl | long | level | undefined
        · exact nomatch coded.symm.trans (timerSource_ofCode_big unknown)
        · exact absurd ⟨(Option.some.inj coded).symm, first⟩ chain
        · exact .inl rfl
        · exact .inr (.inl long)
        · exact absurd small level.not_gt
        · exact .inr (.inr undefined)
    · rfl

theorem serveSetTimer_bad {n src : Byte} {reload : Half} {soft flags : Byte}
    (bad : 8 ≤ n.toNat ∨ 5 ≤ src.toNat ∨ (src = 4 ∧ n = 0) ∨ reload = 0 ∨ 4095 < reload.toNat ∨
      4 ≤ soft.toNat ∨ 8 ≤ flags.toNat) (s : State) :
    serveSetTimer n src reload soft flags s = refused s .badValue := by
  rcases bad with big | bad
  · rw [serveSetTimer, timerOf_big n big]
  · unfold serveSetTimer
    split
    · rfl
    · rename_i m named
      have first : n = 0 → m = 0 := by
        rintro rfl
        exact (Option.some.inj named).symm
      rw [timerProgrammed_bad (bad.imp_right (Or.imp_left (And.imp_right first)))]

theorem timerFlagBits (enabled oneShot wakeEnable : Bool) :
    let flags := flagBit enabled 0 ||| flagBit oneShot 1 ||| flagBit wakeEnable 2
    flags.toNat < 8 ∧ flags.getLsbD 0 = enabled ∧ flags.getLsbD 1 = oneShot ∧ flags.getLsbD 2 = wakeEnable := by
  revert enabled oneShot wakeEnable
  decide

/-- The whole record that SET TIMER writes (R128): the count at the reload, the tally at 0, nothing due. -/
def timerSet (source : TimerSource) (reload : Half) (soft : Fin 4) (enabled oneShot wakeEnable : Bool) : Timer :=
  { enabled := enabled, source := source, reload := reload.toNat, count := reload.toNat
    oneShot := oneShot, tally := 0, softLevel := soft, wakeEnable := wakeEnable, due := false }

section
variable {n : TimerId} {source : TimerSource} {reload : Half} (soft : Fin 4) (enabled oneShot wakeEnable : Bool)

theorem timerProgrammed_accepts (chain : ¬ (source = .cascade ∧ n = 0)) (nonzero : reload ≠ 0)
    (fits : reload.toNat ≤ 4095) :
    timerProgrammed n source.code reload (byte soft.val)
        (flagBit enabled 0 ||| flagBit oneShot 1 ||| flagBit wakeEnable 2) =
      some (timerSet source reload soft enabled oneShot wakeEnable) := by
  obtain ⟨flags, bit0, bit1, bit2⟩ := timerFlagBits enabled oneShot wakeEnable
  have number : (byte soft.val).toNat = soft.val := by revert soft; decide
  have level : (byte soft.val).toNat < 4 := number.trans_lt soft.isLt
  have range : ¬ (reload.toNat = 0 ∨ 4095 < reload.toNat ∨
      8 ≤ (flagBit enabled 0 ||| flagBit oneShot 1 ||| flagBit wakeEnable 2).toNat) := by
    rintro (zero | long | undefined)
    · exact nonzero (BitVec.eq_of_toNat_eq zero)
    · omega
    · omega
  rw [timerProgrammed, timerSource_ofCode_code]
  dsimp only
  rw [dif_pos level, if_neg chain, if_neg range, bit0, bit1, bit2]
  simp only [number, timerSet]

theorem serveSetTimer_accepts (s : State) (chain : ¬ (source = .cascade ∧ n = 0)) (nonzero : reload ≠ 0)
    (fits : reload.toNat ≤ 4095) :
    serveSetTimer (byte n.val) source.code reload (byte soft.val)
        (flagBit enabled 0 ||| flagBit oneShot 1 ||| flagBit wakeEnable 2) s =
      accepted (s.writeTimer n
        (s.recordAfterSet s.timers[n] (timerSet source reload soft enabled oneShot wakeEnable))) := by
  rw [serveSetTimer, timerOf_byte]
  dsimp only
  rw [timerProgrammed_accepts soft enabled oneShot wakeEnable chain nonzero fits]

/-- The tick that the new record meets, of its own source (R129, log 11). -/
theorem timerSet_tick (nonzero : reload ≠ 0) :
    let record := timerSet source reload soft enabled oneShot wakeEnable
    record.tick source = if enabled = false then record
      else if reload = 1 then { record with due := true }
      else { record with count := reload.toNat - 1 } := by
  have positive : reload.toNat ≠ 0 := fun zero => nonzero (BitVec.eq_of_toNat_eq zero)
  have unit : reload = 1 ↔ reload.toNat = 1 := BitVec.toNat_inj.symm
  intro record
  rw [tick_eq_tickOf]
  cases enabled with
  | false =>
    rw [if_pos rfl]
    exact if_neg fun ticks => nomatch ticks.1
  | true =>
    have counts : record.tickOf [source] = if 1 < reload.toNat then { record with count := reload.toNat - 1 }
        else { record with due := true } := if_pos ⟨rfl, List.mem_singleton_self source⟩
    rw [counts, if_neg (c := true = false) nofun]
    by_cases last : reload = 1
    · have ended := unit.1 last
      rw [if_neg (by omega), if_pos last]
    · have longer := mt unit.2 last
      rw [if_pos (by omega), if_neg last]

end

/-! ### A tick not yet taken (R120, R129, log 11) -/

/-- The divider's tick that a timer of source `old` has met was a tick of `source` as well (R120). -/
def GaveTick (s : State) (old source : TimerSource) : Prop :=
  ((old = .base10us ∨ old = .base100us) ∧ (source = .base10us ∨ (source = .base100us ∧ s.fineDivider = 0))) ∨
    ((old = .base1ms ∨ old = .base10ms) ∧ (source = .base1ms ∨ (source = .base10ms ∧ s.uptime.toNat % 10 = 0)))

theorem tickGave_iff (s : State) (old source : TimerSource) : s.tickGave old source = true ↔ GaveTick s old source := by
  cases source <;> simp [State.tickGave, GaveTick]

theorem recordAfterSet_rests {s : State} {old : Timer} (rests : old.due = false) (new : Timer) :
    s.recordAfterSet old new = new := by
  rw [State.recordAfterSet, rests]
  rfl

theorem recordAfterSet_missed {s : State} {old new : Timer} (missed : ¬ GaveTick s old.source new.source) :
    s.recordAfterSet old new = new :=
  if_neg fun finds => missed ((tickGave_iff s _ _).1 (Bool.and_eq_true_iff.1 finds).2)

theorem recordAfterSet_met {s : State} {old new : Timer} (due : old.due = true)
    (gave : GaveTick s old.source new.source) : s.recordAfterSet old new = new.tick new.source :=
  if_pos (Bool.and_eq_true_iff.2 ⟨due, (tickGave_iff s _ _).2 gave⟩)

/-! ### READ TIMERS (R130, R131) -/

theorem serveReadTimers_clears (s : State) : serveReadTimers 1 s =
    ({ s with timers := mapAll (fun r : Timer => { r with tally := 0 }) s.timers }, .ok, s.timersBody) := rfl

theorem serveReadTimers_bad {n : Byte} (bad : 2 ≤ n.toNat) (s : State) :
    serveReadTimers n s = refused s .badValue := by
  have many : n ≠ 0 ∧ n ≠ 1 := by
    constructor
    · rintro rfl
      exact absurd bad (by decide)
    · rintro rfl
      exact absurd bad (by decide)
  rw [serveReadTimers, if_neg many.1, if_neg many.2]

/-! ### The requests at the port -/

/-- A SET TIMER body carries its five values. -/
theorem readSetTimer_bytes16 (n src : Byte) (reload : Half) (soft flags : Byte) :
    readSetTimer ([n, src] ++ bytes16 reload ++ [soft, flags]) = some (.setTimer n src reload soft flags) :=
  congrArg (fun w => some (Request.setTimer n src w soft flags)) (half_bytes reload)

end Sys2Proof.Machine

open Sys2Proof Sys2Proof.Machine Sys2Proof.Safety

/-- Settles O45: SET TIMER by the range of its values, and then by the tick that its record meets, if any; READ
TIMERS by its operand. -/
theorem timerRequestsWriteTheirRecords : Obligations.TimerRequestsWriteTheirRecords := by
  intro tag s free running
  have sets (n src : Byte) (reload : Half) (soft flags : Byte) {status change} (serves : _) :
      Answered (.setTimer tag n src reload soft flags) tag (.setTimer n src reload soft flags) s status [] change :=
    answered_running (r := .setTimer n src reload soft flags) free running tag
      (readSetTimer_bytes16 n src reload soft flags) serves
  refine ⟨fun n src soft flags reload bad => sets _ _ _ _ _ (serveSetTimer_bad bad _), ?_,
    answered_of_serve tag (.readTimers 1) s .ok _ _ free rfl rfl (.inl running) (serveReadTimers_clears _),
    fun n bad => answered_running (r := .readTimers n) free running tag rfl (serveReadTimers_bad bad _)⟩
  intro n source reload soft enabled oneShot wakeEnable chain nonzero fits request record
  have writes {r : Timer} (left : s.recordAfterSet s.timers[n] record = r) :
      Answered (commandOf tag request) tag request s .ok [] (fun t => { t with timers := t.timers.set n r }) :=
    sets _ _ _ _ _ ((serveSetTimer_accepts soft enabled oneShot wakeEnable _ chain nonzero fits).trans
      (congrArg (fun r => accepted ((arrived (requestFrame tag request) s).writeTimer n r)) left))
  exact ⟨fun rests => writes (recordAfterSet_rests rests record),
    fun _ missed => writes (recordAfterSet_missed missed),
    fun due met => writes ((recordAfterSet_met (new := record) due met).trans
      (timerSet_tick soft enabled oneShot wakeEnable nonzero))⟩
end

/-! ## HALTED refuses every request but five (R151, R173) -/
section
namespace Sys2Proof.Machine
open Sys2Proof.Safety

/-- The body that a well-formed request writes is read back as that request (TABLE 11-4). -/
theorem readBody_body (r : Request) (carried : Request.wellFormed r = true) :
    readBody (Request.kind r) (Request.body r) = some r := by
  cases r with
  | loadSlot n st c p retries t o payload =>
    exact readBody_loadSlot n st c p retries t o payload (of_decide_eq_true carried)
  | start set => exact readBody_start set
  | enroll st mask => exact byteAndHalf_bytes16 .enroll st mask
  | setCauseMask st mask => exact byteAndHalf_bytes16 .setCauseMask st mask
  | setLoopAttention level set cause => exact readSetLoopAttention_bytes32 level set cause
  | setTimer n src reload soft flags => exact readSetTimer_bytes16 n src reload soft flags
  | writeSettings mask values => exact if_pos (eq_of_beq carried)
  | _ => rfl

/-- Every request but the five of R151 is none that HALTED takes. -/
theorem takenInHalted_false (r : Request) (identify : r ≠ .identify) (status : r ≠ .status)
    (fetch : ∀ n, r ≠ .fetch n) (readFault : r ≠ .readFault) (reset : r ≠ .reset) :
    Request.takenInHalted r = false := by
  cases r with
  | identify => exact absurd rfl identify
  | status => exact absurd rfl status
  | fetch n => exact absurd rfl (fetch n)
  | readFault => exact absurd rfl readFault
  | reset => exact absurd rfl reset
  | _ => rfl

end Sys2Proof.Machine

open Sys2Proof Sys2Proof.Machine Sys2Proof.Safety

/-- Settles O8: the frame is read back as its request, and the fourth test of R173 turns it away. -/
theorem haltedRefusesAllButFiveRequests : Obligations.HaltedRefusesAllButFiveRequests := by
  intro tag r s free halted carried identify status fetch readFault reset
  exact answered_of_halted tag r s free (kind_isRequestKind r) (readBody_body r carried) halted
    (takenInHalted_false r identify status fetch readFault reset)
end

/-! ## The end of an exchange that a requested mode waits for (R25, R139, R140) -/
section
namespace Sys2Proof.Machine
open Sys2Proof.Safety

/-- Behind step 6 no exchange is in flight. -/
theorem Freed.idle {x : Exchange} {o : Outcome} {v t : State} (h : Freed x o v t) : t.dispatcher ≠ .busy := by
  rw [h.dispatcher]
  split
  · split <;> nofun
  · nofun

theorem freed_settings (x : Exchange) (o : Outcome) (v : State) : (v.freed x o).settings = v.settings := by
  have only := ((stepReport_only v x o).trans (release_only _)).dispatcherAfter x
  unfold OnlyEnd at only
  unfold State.freed
  rw [only]

theorem tablesTold_settings (s : State) (x : Exchange) (o : Outcome) : (s.tablesTold x o).settings = s.settings := by
  have only := tablesTold_only s x o
  unfold OnlyTables at only
  rw [only]
  rfl

/-- Where the end is not BLOCKED, step 7 completes the mode requested before it. -/
theorem endExchange_asked (s : State) (x : Exchange) {o : Outcome} {m : Mode} (other : o ≠ .blocked)
    (asked : s.requested = some m) :
    s.endExchange x o = ((s.tablesTold x o).freed x o).changeMode m .request := by
  rw [endExchange_steps, linkStuck_other _ x other]
  exact completeRequested_some _
    ((freed_leaves x o _).requested.trans ((tablesTold_untold s x o).requested.trans asked))

/-- The host-silence timer's start value, in R142's milliseconds. -/
theorem silenceStart_eq (t : Settings) :
    t.silenceStart = if t.hostTimeout ≠ 0 then some (10 * t.hostTimeout) else none := (ite_not ..).symm

/-- Entry to CONFIGURATION leaves no slot WAITING or READY (R25). -/
theorem changeMode_configuration_disarms (s : State) (c : ModeCause) (i : SlotId) :
    (s.changeMode .configuration c).slots[i].state ≠ .waiting ∧
      (s.changeMode .configuration c).slots[i].state ≠ .ready := by
  rw [(changeMode_tables_configuration s c).1, disarmAll_slots]
  split
  · exact ⟨nofun, nofun⟩
  · rename_i stands
    rw [waits_iff, not_or] at stands
    exact stands

end Sys2Proof.Machine

open Sys2Proof Sys2Proof.Machine Sys2Proof.Safety

/-- Settles O35: the end is steps 1 to 6 of R47 and then the change to the requested mode, by its fields. -/
theorem requestedModeIsCompletedAtTheEnd : Obligations.RequestedModeIsCompletedAtTheEnd := by
  intro s x o m other asked t
  have untold := tablesTold_untold s x o
  have leaves := freed_leaves x o (s.tablesTold x o)
  have settings := (freed_settings x o (s.tablesTold x o)).trans (tablesTold_settings s x o)
  have ends : t = _ := endExchange_asked s x other asked
  clear_value t
  subst ends
  generalize (s.tablesTold x o).freed x o = w at leaves settings
  refine ⟨changeMode_mode w m .request, changeMode_requested w m .request, ?_, ?_, ?_⟩
  · rw [changeMode_reports, leaves.uptime, untold.uptime, leaves.mode, untold.mode, List.getLast?_concat]
  · rw [changeMode_silence, settings, silenceStart_eq, ite_and]
  · rintro rfl
    refine ⟨?_, (changeMode_tables_configuration w .request).2.2, changeMode_configuration_disarms w .request⟩
    rw [changeMode_dispatcher, afterMode_eq, if_neg leaves.idle]
    rfl
end

/-! ## SET MODE (R137, R138, R145, R146) -/
section
namespace Sys2Proof.Machine
open Sys2Proof.Safety

/-! ### The target mode -/

/-- A code above those of the five modes that may be asked for names HALTED or no mode. -/
theorem mode_ofCode_big {b : Byte} (big : 5 ≤ b.toNat) : Mode.ofCode b = none ∨ Mode.ofCode b = some .halted := by
  have others : ∀ k : Nat, k < 5 → b ≠ BitVec.ofNat 8 k := by
    rintro k small rfl
    rw [BitVec.toNat_ofNat] at big
    omega
  by_cases five : b = 5#8
  · exact .inr (five ▸ rfl)
  · exact .inl (by simp [Mode.ofCode, others 0, others 1, others 2, others 3, others 4, five])

section
variable {s : State} {m : Mode}

theorem serveSetMode_refuses {status : Status} (fails : s.modeRefusal m = some status) :
    serveSetMode m.code s = refused s status := by
  simp only [serveSetMode, mode_ofCode_code, fails]

theorem serveSetMode_accepts (passes : s.modeRefusal m = none) :
    serveSetMode m.code s = accepted (s.takeMode m) := by
  simp only [serveSetMode, mode_ofCode_code, passes]

theorem serveSetMode_big {b : Byte} (big : 5 ≤ b.toNat) : serveSetMode b s = refused s .badValue := by
  rcases mode_ofCode_big big with none | halted
  · simp only [serveSetMode, none]
  · have fails : s.modeRefusal .halted = some .badValue := if_pos (.inl rfl)
    simp only [serveSetMode, halted, fails]

/-! ### The checks of R137 in order -/

theorem modeRefusal_same (same : m = s.mode) : s.modeRefusal m = some .badValue := if_pos (.inr same)

/-- The target is another mode than the present one and than HALTED: check 1. -/
def State.moves (s : State) (m : Mode) : Prop := ¬(m = .halted ∨ m = s.mode)

theorem modeRefusal_asked (target : s.moves m) (asked : s.requested ≠ none) :
    s.modeRefusal m = some .modePending := by
  rw [State.modeRefusal, if_neg target, if_pos (Option.isSome_iff_ne_none.2 asked)]

theorem modeRefusal_full (target : s.moves m) (unasked : s.requested = none) (full : 2 < s.systemOccupied) :
    s.modeRefusal m = some .reportsFull := by
  rw [State.modeRefusal, if_neg target, unasked, if_neg nofun, if_pos full]

/-- Behind the first three checks only DORMANT is judged further. -/
theorem modeRefusal_roomy (target : s.moves m) (unasked : s.requested = none) (room : s.systemOccupied ≤ 2) :
    s.modeRefusal m =
      if s.mode = .loopback ∧ m = .dormant then some .mode
      else if m = .dormant ∧ s.dormancyAllowed = false then some .pending
      else none := by
  rw [State.modeRefusal, if_neg target, unasked, if_neg nofun, if_neg (Nat.not_lt.2 room)]

/-! ### The conditions of R145 and of R138 -/

/-- The five conditions of R145: the dispatcher rests, no slot is READY or ACTIVE, no attention service is
outstanding, no report is queued, and the fault record is empty or retained. -/
def State.quiet (s : State) : Prop :=
  (s.dispatcher = .idle ∨ s.dispatcher = .stopped) ∧
    (∀ i : SlotId, s.slots[i].state ≠ .ready ∧ s.slots[i].state ≠ .active) ∧
    (∀ l : LineId, s.threshold.val < 4 + l.val → s.lines[l].state = .quiet ∨ s.lines[l].state = .stuck) ∧
    (∀ l : SoftId, s.soft[l] = 0) ∧ s.reports = [] ∧ ∀ f, s.fault = some f → f.retained = true

theorem calling_false_iff (r : LineState) : r.calling = false ↔ r = .quiet ∨ r = .stuck := by
  cases r <;> simp [LineState.calling]

theorem fault_all_retained (f : Option FaultRecord) :
    f.all FaultRecord.retained = true ↔ ∀ r, f = some r → r.retained = true := by
  cases f <;> simp

/-- No attention service is outstanding (R115). -/
theorem attentionOutstanding_false_iff (s : State) : s.attentionOutstanding = false ↔
    (∀ l : LineId, s.threshold.val < 4 + l.val → s.lines[l].state = .quiet ∨ s.lines[l].state = .stuck) ∧
      ∀ l : SoftId, s.soft[l] = 0 := by
  have lines : (allLines.any fun l => s.lineEligible l && s.lines[l].state.calling) = false ↔
      ∀ l : LineId, s.threshold.val < 4 + l.val → s.lines[l].state = .quiet ∨ s.lines[l].state = .stuck := by
    simp only [List.any_eq_false, allLines, List.mem_finRange, true_implies, Bool.and_eq_true, not_and,
      Bool.not_eq_true, State.lineEligible, decide_eq_true_eq, calling_false_iff]
  have soft : (s.soft.toList.any fun o => o != 0) = false ↔ ∀ l : SoftId, s.soft[l] = 0 := by
    simp [Vector.any_eq_false, Fin.forall_iff]
  rw [State.attentionOutstanding, Bool.or_eq_false_iff, lines, soft]

theorem dormancyAllowed_iff (s : State) : s.dormancyAllowed = true ↔ s.quiet := by
  simp only [State.dormancyAllowed, State.quiet, Bool.and_eq_true, Bool.or_eq_true, decide_eq_true_eq,
    List.all_eq_true, allSlots, List.mem_finRange, true_implies, Bool.not_eq_true',
    attentionOutstanding_false_iff, List.isEmpty_iff, fault_all_retained, and_assoc]

theorem mustWait_iff (s : State) (m : Mode) : s.mustWait m = true ↔
    s.dispatcher = .busy ∧ (m = .configuration ∨ m = .loopback ∨ s.mode = .loopback) := by
  simp only [State.mustWait, State.inFlight, Bool.and_eq_true, Bool.or_eq_true, decide_eq_true_eq, or_assoc]

/-! ### What an accepted request does (R138, R146) -/

theorem takeMode_waits (other : m ≠ .dormant) (waits : s.mustWait m = true) :
    s.takeMode m = { s with requested := some m } := by
  rw [State.takeMode, if_neg other, if_pos waits]

theorem takeMode_changes (other : m ≠ .dormant) (free : ¬ s.mustWait m = true) :
    s.takeMode m = s.changeMode m .request := by
  rw [State.takeMode, if_neg other, if_neg free]

/-- With only its own frame held, SET MODE finds nothing to discard at entry to DORMANT. -/
theorem takeMode_dormant_arrived (f : Frame) {s : State} (free : PortFree s) :
    (arrived f s).takeMode .dormant = { arrived f s with
      mode := .dormant, dispatcher := .stopped, silence := none, lde := false, linkFrame := none } := by
  obtain ⟨-, -, -, overrun⟩ := free
  rw [State.takeMode, if_pos rfl, State.enterDormant]
  simp only [arrived, overrun, List.take]

/-! ### The reply -/

/-- The checks read nothing that the arrival of the request's frame writes. -/
theorem modeRefusal_arrived (f : Frame) (s : State) (m : Mode) :
    (arrived f s).modeRefusal m = s.modeRefusal m := rfl

theorem setMode_refused (free : PortFree s) (running : s.mode ≠ .halted) (tag : Byte) {status : Status}
    (fails : s.modeRefusal m = some status) :
    Answered (.setMode tag m.code) tag (.setMode m.code) s status [] (fun t => t) :=
  answered_running (r := .setMode m.code) free running tag rfl
    (serveSetMode_refuses ((modeRefusal_arrived _ s m).trans fails))

theorem setMode_accepted (free : PortFree s) (running : s.mode ≠ .halted) (tag : Byte) {change : State → State}
    (passes : s.modeRefusal m = none)
    (taken : (arrived (requestFrame tag (.setMode m.code)) s).takeMode m =
      change (arrived (requestFrame tag (.setMode m.code)) s)) :
    Answered (.setMode tag m.code) tag (.setMode m.code) s .ok [] change :=
  answered_running (r := .setMode m.code) free running tag rfl
    ((serveSetMode_accepts ((modeRefusal_arrived _ s m).trans passes)).trans (congrArg accepted taken))

end

end Sys2Proof.Machine

open Sys2Proof Sys2Proof.Machine Sys2Proof.Safety

/-- Settles O48: the checks of R137 one after the other, each with those before it passed, and then the entry to
DORMANT, the request that waits, and the change made at once. -/
theorem setModeIsJudgedInOrder : Obligations.SetModeIsJudgedInOrder := by
  intro tag s free running
  refine ⟨fun b big => answered_running (r := .setMode b) free running tag rfl (serveSetMode_big big), ?_⟩
  intro m notHalted replies quiet waits
  have refuses {status : Status} : s.modeRefusal m = some status → replies status (fun t => t) :=
    setMode_refused free running tag
  have accepts {change : State → State} : s.modeRefusal m = none →
      (arrived (requestFrame tag (.setMode m.code)) s).takeMode m =
        change (arrived (requestFrame tag (.setMode m.code)) s) → replies .ok change :=
    setMode_accepted free running tag
  refine ⟨fun same => refuses (modeRefusal_same same), fun other => ?_⟩
  have target : s.moves m := not_or.2 ⟨notHalted, other⟩
  refine ⟨fun asked => refuses (modeRefusal_asked target asked), fun unasked =>
    ⟨fun full => refuses (modeRefusal_full target unasked full), fun room => ?_⟩⟩
  have judged := modeRefusal_roomy target unasked room
  have allowed : s.dormancyAllowed = true ↔ quiet := dormancyAllowed_iff s
  have waiting : s.mustWait m = true ↔ waits := mustWait_iff s m
  refine ⟨fun dormant => ?_, fun awake => ?_⟩
  · subst dormant
    refine ⟨fun loop => refuses (judged.trans (if_pos ⟨loop, rfl⟩)), fun pair restless => ?_, fun pair rests => ?_⟩
    · refine refuses (judged.trans ((if_neg fun both => pair both.1).trans (if_pos ⟨rfl, ?_⟩)))
      exact Bool.eq_false_iff.2 fun yes => restless (allowed.1 yes)
    · refine accepts (judged.trans ((if_neg fun both => pair both.1).trans (if_neg fun both => ?_)))
        (takeMode_dormant_arrived _ free)
      exact Bool.eq_false_iff.1 both.2 (allowed.2 rests)
  · have passes := judged.trans ((if_neg fun both => awake both.2).trans (if_neg fun both => awake both.1))
    exact ⟨fun waits => accepts passes (takeMode_waits awake (waiting.2 waits)),
      fun moves => accepts passes (takeMode_changes awake fun waits => moves (waiting.1 waits))⟩
end

/-! ## Entering and waking from DORMANT (R146, R148 to R150) -/
section
namespace Sys2Proof.Machine
open Sys2Proof.Safety

section
variable {s : State} {w : WakeSource}

/-! ### The wake source (R148) -/

/-- The first wake source told in DORMANT is recorded, and an OFF crystal started. -/
theorem tellWake_first (dormant : s.mode = .dormant) (first : s.wake = none) (w : WakeSource) :
    s.tellWake w = { s with wake := some w, crystal := if s.crystal = .off then .starting else s.crystal } := by
  rw [State.tellWake, if_pos ⟨dormant, first⟩, startedFromOff_eq]

/-- A wake source recorded stands against any other. -/
theorem tellWake_recorded (recorded : s.wake ≠ none) (v : WakeSource) : s.tellWake v = s :=
  if_neg fun both => recorded both.2

theorem filterTakes_recorded (recorded : s.wake = some w) (l : LineId) : (s.filterTakes l).wake = some w := by
  have changes {t : State} (kept : t.wake = some w) (v : Bool) : (t.changeLine l v).wake = some w := by
    unfold State.changeLine
    dsimp only
    split
    · rw [tellWake_recorded (by rw [writeLine_wake, kept]; nofun)]
      exact kept
    · exact kept
  unfold State.filterTakes
  split
  · exact recorded
  · dsimp only
    split
    · exact recorded
    · exact changes (t := s.writeLine l { s.lines[l] with pinFilter := s.lines[l].pin }) recorded _

theorem retimeFilters_recorded (recorded : s.wake = some w) : s.retimeFilters.wake = some w := by
  unfold State.retimeFilters
  split
  · exact foldl_keeps (P := fun t => t.wake = some w) allLines (fun _ l kept => filterTakes_recorded kept l) recorded
  · exact recorded

/-! ### The wake (R149, R150) -/

/-- DORMANT is left for HOLD, with a MODE report of the wake source. -/
theorem leaveDormant_recorded (recorded : s.wake = some w) : s.leaveDormant = State.softTests { s with
    mode := .hold, wake := none
    reports := s.reports ++ [⟨s.uptime, .mode .dormant .hold .wake (some w)⟩] } := by
  rw [← recorded]
  rfl

/-- The crystal's return leaves the wake source to be reported. -/
theorem crystalReturns_recorded (recorded : s.wake = some w) : s.crystalReturns.wake = some w :=
  retimeFilters_recorded recorded

theorem wakeReady_iff (s : State) : s.wakeReady = true ↔
    s.mode = .dormant ∧ s.wake.isSome ∧ (s.crystal = .starting ∨ s.crystal = .stable ∧ s.reply = none) := by
  simp only [State.wakeReady, Bool.and_eq_true, Bool.or_eq_true, decide_eq_true_eq, Option.isNone_iff_eq_none,
    and_assoc]

theorem exec_wakeComplete_ready (ready : s.wakeReady = true) : exec .wakeComplete s = .next s.wakeOnCrystal :=
  congrArg Host.Outcome.next (if_pos ready)

/-- With the crystal not started the fault of its loss fills the record before DORMANT is left. -/
theorem wakeOnLowSpeed_fills (dormant : s.mode = .dormant) (room : s.fault.all FaultRecord.retained = true) :
    s.wakeOnLowSpeed = State.leaveDormant
      { s with fault := some (faultOf .crystalLost s.uptime .dormant .stopped none) } := by
  rw [State.wakeOnLowSpeed, takeFault_fills s _ room]
  exact if_pos dormant

/-! ### The end of the reply that entered DORMANT (R146) -/

theorem exec_replyEnd_dormant (dormant : s.mode = .dormant) {r : Reply} (sending : s.reply = some r)
    (other : r.isReset = false) : exec .replyEnd s = .next s.dormantReplyEnds := by
  show execReplyEnd s = _
  simp only [execReplyEnd, sending, other, dormant, Bool.false_eq_true, if_false, if_true]

/-- With no wake source recorded the crystal and the monitor stop. -/
theorem dormantReplyEnds_stops (unwoken : s.wake = none) : s.dormantReplyEnds = { s with
    reply := none, holding := s.holding.tail
    crystal := .off, clockSource := .lowSpeed, monitorRunning := false } := if_pos unwoken

/-- With a wake source recorded the wake completes on the crystal that has not been stopped. -/
theorem dormantReplyEnds_wakes (recorded : s.wake = some w) (stable : s.crystal = .stable) :
    s.dormantReplyEnds = State.wakeOnCrystal { s with reply := none, holding := s.holding.tail } :=
  (if_neg (by rw [recorded]; nofun)).trans (if_pos stable)

end

end Sys2Proof.Machine

open Sys2Proof Sys2Proof.Machine Sys2Proof.Safety

/-- Settles O50: what records a wake source, what stops the crystal, and the three ways in which a wake completes. -/
theorem dormancyEndsInHold : Obligations.DormancyEndsInHold := by
  intro s dormant woken returned
  have wakes (w : WakeSource) (t : State) (recorded : t.wake = some w) : t.wakeOnCrystal = woken w (returned t) :=
    leaveDormant_recorded (crystalReturns_recorded recorded)
  refine ⟨fun first => congrArg Host.Outcome.next (tellWake_first dormant first .host),
    fun recorded => congrArg Host.Outcome.next (tellWake_recorded recorded .host),
    fun unwoken stable r sending other => ⟨?_, ?_⟩, fun w recorded => ⟨fun starting => ?_, fun stable silent => ?_,
      fun stable r sending other => ?_, fun starting room => ?_⟩⟩
  · exact congrArg Host.Outcome.next ((if_pos ⟨dormant, unwoken, stable⟩).trans (dormantReplyEnds_stops unwoken))
  · rw [exec_replyEnd_dormant dormant sending other, dormantReplyEnds_stops unwoken]
  · rw [exec_wakeComplete_ready ((wakeReady_iff s).2 ⟨dormant, recorded ▸ rfl, .inl starting⟩), wakes w s recorded]
  · rw [exec_wakeComplete_ready ((wakeReady_iff s).2 ⟨dormant, recorded ▸ rfl, .inr ⟨stable, silent⟩⟩),
      wakes w s recorded]
  · rw [exec_replyEnd_dormant dormant sending other, dormantReplyEnds_wakes recorded stable]
    exact congrArg Host.Outcome.next (wakes w _ recorded)
  · have expires : exec .wakeCrystalTimeout s = .next s.wakeOnLowSpeed :=
      congrArg Host.Outcome.next (if_pos ⟨dormant, recorded ▸ rfl, starting⟩)
    rw [expires, wakeOnLowSpeed_fills dormant ((fault_all_retained _).2 room)]
    exact congrArg Host.Outcome.next (leaveDormant_recorded (w := w) recorded)
end

/-! ## The crystal's loss and its return (R146, R154, R155, R158, R164, R165, R174) -/
section
namespace Sys2Proof.Machine
open Sys2Proof.Safety Standing

/-! ### An exchange abandoned -/

/-- A change of mode puts no exchange in flight (R28). -/
theorem afterMode_idle {d : DispatcherState} (idle : d ≠ .busy) (old new : Mode) : d.afterMode old new ≠ .busy := by
  rw [afterMode_eq, if_neg idle]
  split
  · split
    · exact idle
    · split
      · nofun
      · exact idle
  · nofun

/-- The end of an exchange leaves none in flight. -/
theorem endExchange_idle (s : State) (x : Exchange) (o : Outcome) : (s.endExchange x o).dispatcher ≠ .busy := by
  have idle := (freed_leaves x o ((s.tablesTold x o).linkStuck x o)).idle
  rw [endExchange_steps]
  unfold State.completeRequested
  split
  · exact idle
  · rw [changeMode_dispatcher]
    exact afterMode_idle idle _ _

theorem endExchange_discards (s : State) (x : Exchange) (o : Outcome) : (s.endExchange x o).exchange = none :=
  (Dispatched.endExchange s x o).absent (endExchange_idle s x o)

/-- Only a BLOCKED end passes a fault. -/
theorem endExchange_fault (s : State) (x : Exchange) {o : Outcome} (other : o ≠ .blocked) :
    (s.endExchange x o).fault = s.fault := by
  rw [endExchange_steps, linkStuck_other _ x other, completeRequested_fault, (freed_leaves x o _).fault,
    (tablesTold_untold s x o).fault]

/-- An end behind one fault, not retained, leaves no exchange and that fault. -/
theorem endExchange_oneFault (s : State) (x : Exchange) {o : Outcome} (other : o ≠ .blocked) {r : FaultRecord}
    (filled : s.fault = some r) (fresh : r.retained = false) (first : r.second = none) :
    OneFault (s.endExchange x o) r where
  idle := endExchange_discards s x o
  stands := endExchange_idle s x o
  filled := (endExchange_fault s x other).trans filled
  fresh := fresh
  first := first

theorem endExchange_uptime (s : State) (x : Exchange) (o : Outcome) : (s.endExchange x o).uptime = s.uptime := by
  have only := endExchange_only s x o
  unfold OnlyEnd at only
  rw [only]

/-! ### The loss passed on (R144, R154, R165) -/

/-- The fault of a loss, as the part stood when it was found (R164). -/
def State.lossFound (s : State) : FaultRecord := faultOf .crystalLost s.uptime s.mode s.dispatcher s.exchange

/-- Steps 3 and 4 of R154: the fault is recorded, and HOLD forced. -/
def State.lossPassed (s : State) (f : FaultRecord) : State := (s.takeFaultElsewhere f).forceHold .clock

section
variable (s : State) (f : FaultRecord)

/-- With the record empty or retained, a part that carries no traffic records the loss and stays in its mode. -/
theorem lossPassed_stands (room : s.fault.all FaultRecord.retained = true)
    (still : s.mode = .configuration ∨ s.mode = .hold) : s.lossPassed f = { s with fault := some f } := by
  obtain ⟨running, still⟩ : s.mode ≠ .halted ∧ s.mode.traffic = false := by
    rcases still with mode | mode <;> rw [mode] <;> exact ⟨nofun, rfl⟩
  rw [State.lossPassed, takeFaultElsewhere_fills s f room running]
  exact forceHold_stands _ _ still

/-- With the record empty or retained, RUN and LOOPBACK are left for HOLD. -/
theorem lossPassed_forces (room : s.fault.all FaultRecord.retained = true)
    (traffic : s.mode = .run ∨ s.mode = .loopback) :
    s.lossPassed f = State.changeMode { s with fault := some f } .hold .clock := by
  have running : s.mode ≠ .halted := by
    rcases traffic with mode | mode <;> rw [mode] <;> nofun
  rw [State.lossPassed, takeFaultElsewhere_fills s f room running, forceHold_eq]
  exact if_pos traffic

/-- Behind a fault not retained the part halts. -/
theorem lossPassed_halts {r : FaultRecord} (one : OneFault s r) : s.lossPassed f = s.haltedBehind r f.kind := by
  rw [State.lossPassed, one.halts f]
  exact forceHold_stands _ _ rfl

/-- A third fault leaves a HALTED part as it stands. -/
theorem lossPassed_third {r : FaultRecord} (halted : s.mode = .halted) (idle : s.exchange = none)
    (filled : s.fault = some r) (fresh : r.retained = false) (second : r.second ≠ none) : s.lossPassed f = s := by
  have stands := takeFault_third s f r filled fresh (Option.isSome_iff_ne_none.2 second)
  rw [State.lossPassed, State.takeFaultElsewhere, stands, if_pos halted, abandonFlight_none s idle]
  exact forceHold_stands s _ (by rw [halted]; rfl)

end

/-! ### A loss found (R154) -/

section
variable {s : State}

theorem exec_crystalLoss (s : State) : exec .crystalLoss s = .next s.findLoss := rfl

/-- Only a RUNNING monitor finds a loss. -/
theorem findLoss_unwatched (stopped : s.monitorRunning = false) : s.findLoss = s := if_neg (by rw [stopped]; nofun)

theorem findLoss_dormant (running : s.monitorRunning = true) (dormant : s.mode = .dormant) :
    s.findLoss = s.dormantLoss := (if_pos running).trans (if_pos dormant)

/-- With no exchange in flight the loss is passed on at once. -/
theorem findLoss_idle (running : s.monitorRunning = true) (awake : s.mode ≠ .dormant)
    (idle : s.dispatcher ≠ .busy) : s.findLoss = (crystalOut s).lossPassed s.lossFound :=
  ((if_pos running).trans (if_neg awake)).trans (crystalLost_idle s idle)

/-- An exchange in flight ends ABANDONED before the loss is passed on. -/
theorem findLoss_busy (running : s.monitorRunning = true) (awake : s.mode ≠ .dormant) {x : Exchange}
    (busy : s.dispatcher = .busy) (present : s.exchange = some x) :
    s.findLoss = ((crystalOut s).endExchange x .abandoned).lossPassed s.lossFound := by
  have flight : (crystalOut s).abandonFlight = (crystalOut s).endExchange x .abandoned := by
    unfold State.abandonFlight
    rw [show (crystalOut s).exchange = some x from present]
  have lost : s.crystalLost = ((crystalOut s).abandonFlight).lossPassed
      (faultOf .crystalLost (crystalOut s).abandonFlight.uptime s.mode s.dispatcher s.exchange) := by
    unfold State.crystalLost
    dsimp only
    rw [if_pos busy]
    rfl
  rw [flight, endExchange_uptime] at lost
  exact ((if_pos running).trans (if_neg awake)).trans lost

/-! ### Commands behind a loss (R30, R165, R167, R174) -/

/-- A part that may start an exchange carries traffic, so it is not in DORMANT (R30). -/
theorem canStart_awake (starts : s.canStart = true) : s.mode ≠ .dormant := by
  intro dormant
  rw [State.canStart, dormant] at starts
  cases starts

/-- With no exchange on the link a loss leaves the slots and the station entries. -/
theorem findLoss_tables (running : s.monitorRunning = true) (starts : s.canStart = true)
    (alone : s.exchange = none) : s.findLoss.slots = s.slots ∧ s.findLoss.stations = s.stations := by
  have only := takeFault_only (crystalOut s) s.lossFound
  have passed : (crystalOut s).takeFaultElsewhere s.lossFound = (crystalOut s).takeFault s.lossFound := by
    have none : ((crystalOut s).takeFault s.lossFound).exchange = none := by
      unfold OnlyFault at only
      rw [only]
      exact alone
    unfold State.takeFaultElsewhere
    rw [abandonFlight_none _ none, ite_self]
  rw [findLoss_idle running (canStart_awake starts) (Dispatched.canStart_idle starts), State.lossPassed, passed]
  generalize (crystalOut s).takeFault s.lossFound = t at only
  have tables : t.slots = s.slots ∧ t.stations = s.stations := by
    unfold OnlyFault at only
    rw [only]
    exact ⟨rfl, rfl⟩
  unfold State.forceHold
  split
  · obtain ⟨slots, stations, -⟩ := changeMode_tables_other t .hold .clock nofun
    exact ⟨slots.trans tables.1, stations.trans tables.2⟩
  · exact tables

/-- A taking of the loss's moment whose codes agree starts no exchange. -/
theorem takeBehindLoss_agrees (running : s.monitorRunning = true) (starts : s.canStart = true)
    (alone : s.exchange = none) {x : Exchange} (slot : ∀ i, x.slot = some i → s.slots[i].codeAgrees = true)
    (station : ∀ st, x.station = stationAddress st → s.stations[st].codeAgrees = true) :
    s.takeBehindLoss x .none = s.findLoss := by
  obtain ⟨slots, stations⟩ := findLoss_tables running starts alone
  unfold State.takeBehindLoss
  rw [tested_passes s.findLoss x _ (by rw [slots]; exact slot) (by rw [stations]; exact station), ite_self]

/-- A loss that halts the part ends the taking of its moment. -/
theorem takeBehindLoss_halted (running : s.monitorRunning = true) (starts : s.canStart = true)
    {r : FaultRecord} (alone : s.exchange = none) (filled : s.fault = some r) (fresh : r.retained = false)
    (first : r.second = none) (x : Exchange) (u : Upset) : s.takeBehindLoss x u = s.findLoss := by
  have idle := Dispatched.canStart_idle starts
  have one : OneFault (crystalOut s) r := ⟨alone, idle, filled, fresh, first⟩
  refine if_pos ?_
  rw [findLoss_idle running (canStart_awake starts) idle, lossPassed_halts _ _ one]
  rfl

/-- A look behind a loss is the loss alone, where the taking of any candidate would be. -/
theorem lookBehindLoss_alone (running : s.monitorRunning = true) (active : Bool) (u : Upset)
    (alone : s.canStart = true → ∀ x, s.candidate = some x → s.takeBehindLoss x u = s.findLoss) :
    exec (.takeCandidate active (.behindLoss u)) s = .next s.findLoss := by
  refine congrArg Host.Outcome.next ?_
  cases starts : s.canStart with
  | false => exact lookBehindLoss_idle s active u running (.inl starts)
  | true =>
    cases offered : s.candidate with
    | none => exact lookBehindLoss_idle s active u running (.inr offered)
    | some x => exact (lookBehindLoss_takes s active u x running starts offered).trans (alone starts x offered)

/-- A CLEAR FAULT behind a loss, at a port that was not free, is discarded with the holding. -/
theorem clearBehindLoss_discarded (running : s.monitorRunning = true) (taken : ¬ PortFree s) (tag : Byte) :
    exec (.clearFault (.behindLoss tag)) s = .next s.findLoss := by
  have waits : (s.monitorRunning && s.takesAtOnce) = false := by
    rw [running, Bool.true_and, Bool.eq_false_iff]
    exact fun free => taken ((takesAtOnce_iff s).1 free)
  refine congrArg Host.Outcome.next ((if_neg ?_).trans (receive_findLoss s running tag .clearFault))
  rw [waits]
  nofun

/-- With no loss found a command behind it is the command alone. -/
theorem clearBehindLoss_unwatched (stopped : s.monitorRunning = false) (tag : Byte) :
    exec (.clearFault (.behindLoss tag)) s = exec (.clearFault (.alone tag)) s := by
  show Host.Outcome.next (s.clearBehindLoss tag) = .next (s.receive tag .clearFault)
  rw [State.clearBehindLoss, findLoss_unwatched stopped, stopped, Bool.false_and]
  rfl

theorem lookBehindLoss_unwatched (stopped : s.monitorRunning = false) (active : Bool) (u : Upset) :
    exec (.takeCandidate active (.behindLoss u)) s = exec (.takeCandidate active (.alone u)) s := by
  show Host.Outcome.next (s.lookBehindLoss active u) = .next (s.look active u)
  rw [State.lookBehindLoss, findLoss_unwatched stopped, stopped, Bool.false_and]
  rfl

end

end Sys2Proof.Machine

open Sys2Proof Sys2Proof.Machine Sys2Proof.Safety

/-- Settles O51: the loss with the monitor stopped, the commands of its moment and after it, the loss in DORMANT
and in every other mode by what is in flight and what the record holds, and the three ends of the wait for the
crystal. -/
theorem crystalEventsMoveTheClock : Obligations.CrystalEventsMoveTheClock := by
  intro s cut found starts returned
  refine ⟨fun stopped => ⟨?_, clearBehindLoss_unwatched stopped, lookBehindLoss_unwatched stopped⟩,
    fun running t lost => ?_, fun running dormant => ?_, fun running awake => ?_, fun starting awake started => ?_,
    fun waiting => ⟨?_, fun room => ?_⟩⟩
  · exact congrArg Host.Outcome.next (findLoss_unwatched stopped)
  · obtain rfl : s.findLoss = t := Host.Outcome.next.inj lost
    refine ⟨fun active u => ⟨?_, fun none => ?_, fun x alone offered slot station => ?_,
      fun f starts alone filled fresh first => ?_⟩, fun tag r => ?_, clearBehindLoss_discarded running⟩
    · exact congrArg Host.Outcome.next (look_findLoss s running active u)
    · exact congrArg Host.Outcome.next (lookBehindLoss_idle s active u running none)
    · refine lookBehindLoss_alone running active .none fun starts y other => ?_
      obtain rfl : x = y := Option.some.inj (offered.symm.trans other)
      exact takeBehindLoss_agrees running starts alone slot station
    · exact lookBehindLoss_alone running active u fun starts x _ =>
        takeBehindLoss_halted running starts alone filled fresh first x u
    · rw [exec_commandOf, receive_findLoss s running]
  · rw [exec_crystalLoss, findLoss_dormant running dormant]
    rfl
  · rw [exec_crystalLoss]
    have idle (rests : s.dispatcher ≠ .busy) : s.findLoss = starts.lossPassed found :=
      findLoss_idle running awake rests
    have ended (x : Exchange) (busy : s.dispatcher = .busy) (present : s.exchange = some x) :
        s.findLoss = (starts.endExchange x .abandoned).lossPassed found := findLoss_busy running awake busy present
    have fault (x : Exchange) : (starts.endExchange x .abandoned).fault = s.fault := endExchange_fault starts x nofun
    refine ⟨fun rest room still => ?_, fun rest room traffic => ?_, fun x busy present room traffic => ?_,
      fun x busy present room still => ?_, fun x f busy present filled fresh first => ?_,
      fun f rest alone filled fresh => ⟨fun first => ?_, fun second halted => ?_⟩⟩
    · rw [idle rest, lossPassed_stands starts found room still]
    · rw [idle rest, lossPassed_forces starts found room traffic]
    · rw [ended x busy present, lossPassed_forces _ found (by rw [fault]; exact room) traffic]
    · rw [ended x busy present, lossPassed_stands _ found (by rw [fault]; exact room) still]
    · have one := endExchange_oneFault starts x (o := .abandoned) nofun filled fresh first
      rw [ended x busy present, lossPassed_halts _ found one]
      rfl
    · have one : OneFault starts f := ⟨alone, rest, filled, fresh, first⟩
      rw [idle rest, lossPassed_halts starts found one]
      rfl
    · rw [idle rest, lossPassed_third starts found halted alone filled fresh second]
  · exact congrArg Host.Outcome.next (if_pos ⟨starting, awake, started⟩)
  · exact congrArg Host.Outcome.next (if_pos waiting)
  · refine congrArg Host.Outcome.next ((if_pos waiting).trans ?_)
    exact takeFault_fills { s with startUp := .done } _ room
end

/-! ## The three resets (R156 to R158, R168) -/
section
namespace Sys2Proof.Machine

/-! ### The end of a reset (R156, R158, TABLE 8-2) -/

theorem strapRate_eq (rate1 rate0 : Bool) : strapRate rate1 rate0 =
    if rate1 then (if rate0 then .r921600 else .r460800) else (if rate0 then .r230400 else .r115200) := by
  cases rate1 <;> cases rate0 <;> rfl

section
variable {s : State}

/-- With no condition left a reset ends: the straps are sampled and the crystal starts (R158, steps 1 to 3). -/
theorem endReset_ends (held : s.startUp = .inReset) (supplied : s.supply = .good) (free : s.pinResetHeld = false) :
    s.endReset = { s with
      startUp := .waiting
      crystal := .starting
      portRate := if s.rate1Pin then (if s.rate0Pin then .r921600 else .r460800)
        else (if s.rate0Pin then .r230400 else .r115200) } := by
  rw [State.endReset, if_pos ⟨held, supplied, free⟩, strapRate_eq]

/-- The PIN condition holds a reset on. -/
theorem endReset_pinHeld (pin : s.pinResetHeld = true) : s.endReset = s :=
  if_neg fun ⟨_, _, free⟩ => nomatch pin.symm.trans free

/-- The POWER condition holds a reset on. -/
theorem endReset_unsupplied (unsupplied : s.supply ≠ .good) : s.endReset = s :=
  if_neg fun ⟨_, supplied, _⟩ => unsupplied supplied

/-! ### The events of a reset (R156) -/

theorem exec_powerResetDelayExpiry (delayed : s.supply = .delay) :
    exec .powerResetDelayExpiry s = .next { s with supply := .good }.endReset :=
  congrArg Host.Outcome.next (if_pos delayed)

theorem exec_resetPinNegated (pin : s.pinResetHeld = true) :
    exec .resetPinNegated s = .next { s with resetPin := false, pinResetHeld := false }.endReset :=
  congrArg Host.Outcome.next (if_pos pin)

theorem isReset_iff (r : Reply) : r.isReset = true ↔ r.kind = 0xE0 ∧ r.status = .ok := by
  rw [Reply.isReset, Bool.and_eq_true, beq_iff_eq, decide_eq_true_eq]

section
variable {r : Reply} (sending : s.reply = some r) (resets : r.isReset = true)
include sending resets

theorem exec_commandReset : exec .commandReset s = .next s.commandReset := by
  have leaving : s.sendingReset = true := by rw [State.sendingReset, sending, Option.any_some, resets]
  exact congrArg Host.Outcome.next (if_pos leaving)

/-- The end of RESET's OK reply is the COMMAND reset, in DORMANT too (R156). -/
theorem exec_replyEnd_reset : exec .replyEnd s = .next s.commandReset := by
  show execReplyEnd s = _
  rw [execReplyEnd, sending]
  exact congrArg Host.Outcome.next (if_pos resets)

end
end

end Sys2Proof.Machine

open Sys2Proof Sys2Proof.Machine Sys2Proof.Safety

/-- Settles O52: each event of a reset by the branch it takes, and its end by the conditions that remain. A
COMMAND reset finds itself held, so that the supply and RESET# alone decide its end. -/
theorem resetsBeginAndEnd : Obligations.ResetsBeginAndEnd := by
  intro s begun kept ended
  refine ⟨fun above => congrArg Host.Outcome.next (if_neg above),
    fun below => congrArg Host.Outcome.next (if_pos below), fun delayed held => ⟨fun free => ?_, fun pin => ?_⟩, rfl,
    fun asserted free => congrArg Host.Outcome.next (if_pos ⟨asserted, free⟩), fun free => ?_,
    fun pin held => ⟨fun supplied => ?_, fun unsupplied => ?_⟩, fun r sending kind ok supplied free => ?_⟩
  · exact (exec_powerResetDelayExpiry delayed).trans
      (congrArg Host.Outcome.next (endReset_ends (s := { s with supply := .good }) held rfl free))
  · exact (exec_powerResetDelayExpiry delayed).trans
      (congrArg Host.Outcome.next (endReset_pinHeld (s := { s with supply := .good }) pin))
  · exact congrArg Host.Outcome.next (if_neg (by rw [free]; nofun))
  · exact (exec_resetPinNegated pin).trans (congrArg Host.Outcome.next (endReset_ends held supplied rfl))
  · exact (exec_resetPinNegated pin).trans (congrArg Host.Outcome.next (endReset_unsupplied unsupplied))
  · have resets : r.isReset = true := (isReset_iff r).2 ⟨kind, ok⟩
    have ends : s.commandReset = ended (begun .command kept s.supplyFlag) :=
      endReset_ends (s := s.beginReset .command) rfl supplied free
    exact ⟨ends ▸ exec_commandReset sending resets, ends ▸ exec_replyEnd_reset sending resets⟩
end

/-! ## ATTN# and the requests FETCH, RESET, CLEAR FAULT and CLEAR CAUSE (R156, R157, R162, R163, R167) -/
section
namespace Sys2Proof.Machine
open Sys2Proof.Safety

/-! ### The records of a FETCH and ATTN# (R162, R163, R181) -/

/-- The k-th record of a FETCH takes the k-th free value from `base` on (log 18). -/
theorem recordsFrom_eq (base : Nat) (out : List Report) : recordsFrom base out =
    (out.mapIdx (fun k r => r.record (Config.stationFiller (base + k)))).flatten := by
  induction out generalizing base with
  | nil => rfl
  | cons r rest ih =>
    have shift : ∀ k, base + 1 + k = base + (k + 1) := fun k => by omega
    simp only [recordsFrom, ih, List.mapIdx_cons, List.flatten_cons, shift, Nat.add_zero]

theorem attn_iff (s : State) : s.attn = true ↔ s.reports ≠ [] ∨ s.fault ≠ none := by
  rw [State.attn, Bool.or_eq_true, Bool.not_eq_true', List.isEmpty_eq_false_iff, Option.isSome_iff_ne_none]

/-! ### FETCH (R162) -/

section
variable {n : Byte} {s : State}

/-- FETCH refuses a count outside 1..4. -/
theorem serveFetch_refuses (outside : n = 0 ∨ 4 < n.toNat) (s : State) :
    serveFetch n s = refused s .badValue := by
  refine if_neg fun ⟨atLeastOne, atMostFour⟩ => ?_
  rcases outside with rfl | above
  · exact absurd atLeastOne (by decide)
  · omega

theorem toNat_pos_of_ne_zero (nonzero : n ≠ 0) : 1 ≤ n.toNat :=
  Nat.one_le_iff_ne_zero.2 fun zero => nonzero (BitVec.eq_of_toNat_eq zero)

/-- A FETCH that takes no report has found the queue empty, and leaves everything as it stands. -/
theorem serveFetch_empty (nonzero : n ≠ 0) (atMostFour : n.toNat ≤ 4) (empty : s.reports.take n.toNat = []) :
    serveFetch n s = (s, .ok, [0]) := by
  have positive := toNat_pos_of_ne_zero nonzero
  have reports : s.reports = [] := (List.take_eq_nil_iff.1 empty).resolve_left (by omega)
  have rest : s.reports.drop n.toNat = s.reports := by rw [reports, List.drop_nil]
  simp only [serveFetch, if_pos (And.intro positive atMostFour), empty, rest, if_true, List.length_nil, Nat.add_zero]
  rfl

/-- A FETCH that takes reports removes them, and opens the soft levels to the test of R112. -/
theorem serveFetch_takes (nonzero : n ≠ 0) (atMostFour : n.toNat ≤ 4) (found : s.reports.take n.toNat ≠ []) :
    serveFetch n s =
      (State.softTests { s with
          reports := s.reports.drop n.toNat
          freeCount := s.freeCount + (s.reports.take n.toNat).length },
        .ok, byte (s.reports.take n.toNat).length :: recordsFrom s.freeCount (s.reports.take n.toNat)) := by
  simp only [serveFetch, if_pos (And.intro (toNat_pos_of_ne_zero nonzero) atMostFour), if_neg found]

end

/-! ### CLEAR FAULT behind a crystal loss (R165, R167, R174) -/

/-- A CLEAR FAULT taken in the moment of a loss finds the record that the loss has filled, unless the loss has
halted the part. -/
theorem clearBehindLoss_taken {s : State} (running : s.monitorRunning = true) (free : PortFree s) (tag : Byte) :
    exec (.clearFault (.behindLoss tag)) s =
      .next (if s.findLoss.mode = .halted then s.findLoss else { s.findLoss with fault := none }) := by
  have taken : (s.monitorRunning && s.takesAtOnce) = true := by
    rw [running, (takesAtOnce_iff s).2 free, Bool.and_self]
  exact congrArg Host.Outcome.next (if_pos taken)

end Sys2Proof.Machine

open Sys2Proof Sys2Proof.Machine Sys2Proof.Safety

/-- Settles O54: ATTN# and the records by their definitions, each request by what its owner serves, and the
CLEAR FAULT behind a loss by the state that the loss leaves. -/
theorem reportAndResetRequestsAreAnswered : Obligations.ReportAndResetRequestsAreAnswered := by
  refine ⟨recordsFrom_eq, attn_iff, fun tag s free => ⟨fun n outside => ?_,
    fun n nonzero atMostFour => ⟨fun empty => ⟨s.freeCount, ?_⟩,
      fun found => ⟨s.freeCount + (s.reports.take n.toNat).length, s.freeCount, ?_⟩⟩,
    ?_, fun running => ⟨?_, ?_⟩, fun t monitored lost => ?_⟩⟩
  · exact answered_of_serve tag (.fetch n) s _ _ _ free rfl rfl (.inr rfl) (serveFetch_refuses outside _)
  · exact answered_of_serve tag (.fetch n) s _ _ _ free rfl rfl (.inr rfl)
      (serveFetch_empty nonzero atMostFour empty)
  · exact answered_of_serve tag (.fetch n) s _ _ _ free rfl rfl (.inr rfl)
      (serveFetch_takes nonzero atMostFour found)
  · exact answered_of_serve tag .reset s _ _ _ free rfl rfl (.inr rfl) rfl
  · exact answered_running free running tag (r := .clearFault) rfl rfl
  · exact answered_running free running tag (r := .clearCause) rfl rfl
  · obtain rfl : s.findLoss = t := Host.Outcome.next.inj lost
    exact clearBehindLoss_taken monitored free tag
end

/-! ## HALTED and the second fault kind (R136, R151, R165) -/
section
namespace Sys2Proof.Machine
open Sys2Proof.Safety

/-! ### A relation kept by every request, at the port (R142, R171 to R173) -/

/-- What a relation has to be kept by, so that the port keeps it: the port's own fields and the host-silence timer
written, and each request that passes R173, which in HALTED is one of R151's five. -/
structure KeptByRequests (P : State → Prop) : Prop where
  port : ∀ s i l o r, P s → P { s with intake := i, holding := l, overrun := o, reply := r }
  silence : ∀ s v, P s → P { s with silence := v }
  serve : ∀ s r, P s → (Request.takenInHalted r = false → s.mode ≠ .halted) → P (serve r s).1

theorem restartSilence_mode (s : State) : s.restartSilence.mode = s.mode := by
  unfold State.restartSilence
  split <;> rfl

namespace KeptByRequests
variable {P : State → Prop} (kept : KeptByRequests P) {s : State}
include kept

theorem judge (h : P s) (f : Frame) : P (judge f s).1 := by
  have restarted : P s.restartSilence := by
    unfold State.restartSilence
    split
    · exact kept.silence s _ h
    · exact h
  unfold Machine.judge
  split
  · exact h
  · split
    · exact restarted
    · split
      · exact restarted
      · split
        · exact restarted
        · rename_i passes
          refine kept.serve _ _ restarted (fun refuses halted => passes ⟨?_, refuses⟩)
          rw [← restartSilence_mode]
          exact halted

theorem takeHead (h : P s) : P s.takeHead := by
  unfold State.takeHead
  split
  · exact h
  · exact kept.port _ _ _ _ _ (kept.judge h _)

theorem frameArrives (h : P s) (f : Frame) : P (s.frameArrives f) := by
  unfold State.frameArrives
  split
  · dsimp only
    split
    · exact kept.port s _ _ _ _ h
    · split
      · have held : P { s with intake := .search, holding := s.holding ++ [f] } := kept.port s _ _ _ _ h
        split
        · exact kept.takeHead held
        · exact held
      · exact kept.port s _ _ _ _ h
  · exact h

theorem nextReply (h : P s) : P s.nextReply := by
  unfold State.nextReply
  split
  · split
    · exact h
    · exact kept.port s _ _ _ _ h
  · exact kept.takeHead h

theorem portReplyEnds (h : P s) (r : Reply) : P (s.portReplyEnds r) := by
  unfold State.portReplyEnds
  split
  · exact kept.nextReply (kept.port s _ _ _ _ h)
  · exact kept.nextReply (kept.port s _ _ _ _ h)

end KeptByRequests

/-! ### What leaves the mode and the fault record as they were -/

/-- The fields that the relation speaks of, as they were. -/
structure SameFaultState (s t : State) : Prop where
  mode : t.mode = s.mode
  requested : t.requested = s.requested
  fault : t.fault = s.fault

section
variable {s t u : State}

theorem SameFaultState.trans (h : SameFaultState s t) (k : SameFaultState t u) : SameFaultState s u :=
  ⟨k.mode.trans h.mode, k.requested.trans h.requested, k.fault.trans h.fault⟩

theorem OnlyTables.faultState (h : OnlyTables s t) : SameFaultState s t := by
  unfold OnlyTables at h
  rw [h]
  exact ⟨rfl, rfl, rfl⟩

theorem OnlyLines.faultState (h : OnlyLines s t) : SameFaultState s t := by
  unfold OnlyLines at h
  rw [h]
  exact ⟨rfl, rfl, rfl⟩

theorem OnlySoft.faultState (h : OnlySoft s t) : SameFaultState s t := by
  unfold OnlySoft at h
  rw [h]
  exact ⟨rfl, rfl, rfl⟩

theorem OnlyUnderflow.faultState (h : OnlyUnderflow s t) : SameFaultState s t := by
  unfold OnlyUnderflow at h
  rw [h]
  exact ⟨rfl, rfl, rfl⟩

theorem formAnswer_faultState (s : State) (x : Exchange) : SameFaultState s (s.formAnswer x) := by
  rw [Standing.formAnswer_only]
  exact ⟨rfl, rfl, rfl⟩

theorem startExchange_faultState (s : State) (x : Exchange) (active : Bool) :
    SameFaultState s (s.startExchange x active) := by
  have marked : SameFaultState s (s.markStarted x) := by
    unfold State.markStarted
    split
    · exact (activateSlot_only s _).tables.faultState
    · split
      · exact (writeLine_only s _ _).faultState
      · exact ⟨rfl, rfl, rfl⟩
    · exact ⟨rfl, rfl, rfl⟩
  refine marked.trans ?_
  unfold State.startExchange State.beginSending
  dsimp only
  split
  · exact ⟨rfl, rfl, rfl⟩
  · split <;> exact ⟨rfl, rfl, rfl⟩

end

theorem serveStart_faultState (set : SlotSet) (s : State) : SameFaultState s (serveStart set s).1 := by
  unfold serveStart
  split
  · exact ⟨rfl, rfl, rfl⟩
  · split
    · split
      · exact ⟨rfl, rfl, rfl⟩
      · exact (startAll_only _ s).tables.faultState
    · exact ⟨rfl, rfl, rfl⟩

theorem serveSetThreshold_faultState (k : Byte) (s : State) : SameFaultState s (serveSetThreshold k s).1 := by
  unfold serveSetThreshold
  split
  · dsimp only [accepted]
    split
    · refine SameFaultState.trans ?_ (softTests_only _).faultState
      exact ⟨rfl, rfl, rfl⟩
    · exact ⟨rfl, rfl, rfl⟩
  · exact ⟨rfl, rfl, rfl⟩

theorem serveFetch_faultState (count : Byte) (s : State) : SameFaultState s (serveFetch count s).1 := by
  unfold serveFetch
  split
  · dsimp only
    split
    · exact ⟨rfl, rfl, rfl⟩
    · refine SameFaultState.trans ?_ (softTests_only _).faultState
      exact ⟨rfl, rfl, rfl⟩
  · exact ⟨rfl, rfl, rfl⟩

theorem serveWriteSettings_faultState (mask : Byte) (values : List Byte) (s : State) :
    SameFaultState s (serveWriteSettings mask values s).1 := by
  unfold serveWriteSettings State.settingsWritten
  split
  · exact ⟨rfl, rfl, rfl⟩
  · split
    · exact ⟨rfl, rfl, rfl⟩
    · split
      · exact ⟨rfl, rfl, rfl⟩
      · dsimp only [accepted]
        split
        · refine SameFaultState.trans ?_ (retimeFilters_only _).faultState
          exact ⟨rfl, rfl, rfl⟩
        · exact ⟨rfl, rfl, rfl⟩

/-- No request but SET MODE and CLEAR FAULT reaches the mode, the requested mode or the fault record (TABLE 10-2). -/
theorem serve_faultState (s : State) (r : Request) (stays : ∀ m, r ≠ .setMode m) (leaves : r ≠ .clearFault) :
    SameFaultState s (serve r s).1 := by
  cases r with
  | setMode m => exact absurd rfl (stays m)
  | clearFault => exact absurd rfl leaves
  | start set => exact serveStart_faultState set s
  | setThreshold k => exact serveSetThreshold_faultState k s
  | fetch count => exact serveFetch_faultState count s
  | writeSettings mask values => exact serveWriteSettings_faultState mask values s
  | abortAll =>
    dsimp only [serve, serveAbortAll]
    exact (abortAll_only s).tables.faultState
  | abortSlot n =>
    dsimp only [serve, serveAbortSlot]
    split
    · exact (abortOne_only s _).tables.faultState
    · exact ⟨rfl, rfl, rfl⟩
  | raise level =>
    dsimp only [serve, serveRaise]
    split
    · exact ⟨rfl, rfl, rfl⟩
    · exact (addOrigin_only s _ _).faultState
  | setLoopAttention level set cause =>
    dsimp only [serve, serveSetLoopAttention]
    split
    · split
      · split
        · exact ((writeLine_only s _ _).trans (changeLine_only _ _ _)).faultState
        · exact ⟨rfl, rfl, rfl⟩
      · exact ⟨rfl, rfl, rfl⟩
    · exact ⟨rfl, rfl, rfl⟩
  | stepEnable | stepDisable | readAttention | reset | clearCause | readFault | readSettings | identify | status =>
    exact ⟨rfl, rfl, rfl⟩
  | loadSlot | releaseSlot | readSlot | stepAdvance | enroll | withdraw | restore | setCauseMask | readStation |
      unmask | setTimer | readTimers =>
    dsimp only [serve, serveLoadSlot, serveReleaseSlot, serveReadSlot, serveStepAdvance, serveEnroll, serveWithdraw,
      serveRestore, serveSetCauseMask, serveReadStation, serveUnmask, serveSetTimer, serveReadTimers]
    repeat' split
    all_goals exact ⟨rfl, rfl, rfl⟩

/-! ### The relation -/

/-- HALTED comes only with a record that is not retained and has a second kind, and is never requested; nor is
DORMANT. -/
structure HaltedByTwo (s : State) : Prop where
  second : s.mode = .halted → s.fault.any (fun r => !r.retained && r.second.isSome) = true
  halted : s.requested ≠ some .halted
  dormant : s.requested ≠ some .dormant

theorem haltedHoldsSecond_iff (s : State) : HaltedHoldsSecond s ↔ HaltedByTwo s :=
  ⟨fun ⟨second, halted, dormant⟩ => ⟨second, halted, dormant⟩, fun h => ⟨h.second, h.halted, h.dormant⟩⟩

namespace HaltedByTwo
variable {s t : State}

theorem of_same (h : HaltedByTwo s) (same : SameFaultState s t) : HaltedByTwo t where
  second := by rw [same.mode, same.fault]; exact h.second
  halted := by rw [same.requested]; exact h.halted
  dormant := by rw [same.requested]; exact h.dormant

/-- Outside HALTED the record is free to change. -/
theorem of_running (h : HaltedByTwo s) (running : t.mode ≠ .halted) (requested : t.requested = s.requested) :
    HaltedByTwo t where
  second halted := absurd halted running
  halted := by rw [requested]; exact h.halted
  dormant := by rw [requested]; exact h.dormant

theorem of_unasked (running : t.mode ≠ .halted) (requested : t.requested = none) : HaltedByTwo t where
  second halted := absurd halted running
  halted := by rw [requested]; nofun
  dormant := by rw [requested]; nofun

/-! ### Modes and faults -/

theorem changeMode (s : State) {m : Mode} (target : m ≠ .halted) (c : ModeCause) : HaltedByTwo (s.changeMode m c) :=
  of_unasked (by rw [changeMode_mode]; exact target) (changeMode_requested s m c)

theorem forceHold (h : HaltedByTwo s) (c : ModeCause) : HaltedByTwo (s.forceHold c) := by
  unfold State.forceHold
  split
  · exact changeMode s (m := .hold) nofun c
  · exact h

theorem silenceExpires (h : HaltedByTwo s) : HaltedByTwo s.silenceExpires := by
  unfold State.silenceExpires
  split
  · exact changeMode s (m := .hold) nofun .hostSilent
  · exact h

/-- A requested mode is never HALTED, so its completion does not halt the part (R136, R140). -/
theorem completeRequested (h : HaltedByTwo s) : HaltedByTwo s.completeRequested := by
  unfold State.completeRequested
  split
  · exact h
  · rename_i m asked
    exact changeMode s (fun halted => h.halted (asked.trans (congrArg some halted))) .request

/-- A record that a fault fills was empty or retained, so the part was not in HALTED; a double fault writes the
second kind in the step that halts the part (R165). -/
theorem takeFault (h : HaltedByTwo s) (f : FaultRecord) : HaltedByTwo (s.takeFault f) := by
  have second := h.second
  unfold State.takeFault
  split
  · rename_i empty
    refine h.of_running (fun halted => ?_) rfl
    have filled := second halted
    rw [empty] at filled
    cases filled
  · rename_i r found
    split
    · rename_i retained
      refine h.of_running (fun halted => ?_) rfl
      have fresh := second halted
      rw [found, Option.any_some, retained] at fresh
      cases fresh
    · rename_i fresh
      split
      · exact h
      · exact ⟨fun _ => by simpa using fresh, nofun, nofun⟩

/-! ### The end of an exchange (R47) -/

theorem dispatcherAfter (h : HaltedByTwo s) (x : Exchange) : HaltedByTwo (s.dispatcherAfter x) :=
  h.of_same ⟨rfl, rfl, rfl⟩

theorem endExchange (h : HaltedByTwo s) (x : Exchange) (o : Outcome) : HaltedByTwo (s.endExchange x o) := by
  have stopped : HaltedByTwo s.stopLink := h.of_same ⟨rfl, rfl, rfl⟩
  have told : HaltedByTwo (s.tablesTold x o) := stopped.of_same (tablesTold_only s x o).faultState
  have stuck : HaltedByTwo ((s.tablesTold x o).linkStuck x o) := by
    unfold State.linkStuck
    split
    · exact (told.takeFault _).forceHold _
    · exact told
  have reported : HaltedByTwo (((s.tablesTold x o).linkStuck x o).stepReport x o) := by
    unfold State.stepReport
    split
    · exact stuck.of_same ⟨rfl, rfl, rfl⟩
    · exact stuck
  have released : HaltedByTwo (((s.tablesTold x o).linkStuck x o).stepReport x o).release := by
    refine HaltedByTwo.of_same ?_ (softTests_only _).faultState
    exact reported.of_same ⟨rfl, rfl, rfl⟩
  exact (released.dispatcherAfter x).completeRequested

theorem abandonFlight (h : HaltedByTwo s) : HaltedByTwo s.abandonFlight := by
  unfold State.abandonFlight
  split
  · exact h
  · exact h.endExchange _ _

theorem takeFaultElsewhere (h : HaltedByTwo s) (f : FaultRecord) : HaltedByTwo (s.takeFaultElsewhere f) := by
  unfold State.takeFaultElsewhere
  split
  · exact (h.takeFault f).abandonFlight
  · exact h.takeFault f

/-! ### A taking (R33, R34) -/

theorem tested (h : HaltedByTwo s) (x : Exchange) (u : Upset) {passed : State → State}
    (passes : HaltedByTwo (passed (Standing.reservedFor s x u))) : HaltedByTwo (s.tested x u passed) := by
  have upset : HaltedByTwo (s.upset x u) := h.of_same (Standing.upset_only s x u).tables.faultState
  rcases Standing.tested_cases s x u passed with ⟨i, f, -, ends⟩ | ⟨st, f, ends⟩ | ends
  · rw [ends]
    exact (upset.of_same (takingFailed_only _ i).faultState).takeFaultElsewhere f
  · rw [ends]
    exact (upset.of_same (takingLost_only _ st).faultState).takeFaultElsewhere f
  · rw [ends]
    exact passes

theorem look (h : HaltedByTwo s) (active : Bool) (u : Upset) : HaltedByTwo (s.look active u) := by
  unfold State.look
  split
  · split
    · exact h
    · rename_i x _
      have upset : HaltedByTwo (s.upset x u) := h.of_same (Standing.upset_only s x u).tables.faultState
      have reserved : HaltedByTwo (Standing.reservedFor s x u) := upset.of_same ⟨rfl, rfl, rfl⟩
      exact h.tested x u (reserved.of_same (startExchange_faultState _ x active))
  · exact h

/-! ### Clocks and resets (R146 to R150, R154 to R158) -/

theorem findLoss (h : HaltedByTwo s) : HaltedByTwo s.findLoss := by
  have out : HaltedByTwo (Standing.crystalOut s) := h.of_same ⟨rfl, rfl, rfl⟩
  unfold State.findLoss State.crystalLost
  split
  · split
    · exact h.of_same ⟨rfl, rfl, rfl⟩
    · dsimp only
      split
      · exact (out.abandonFlight.takeFaultElsewhere _).forceHold _
      · exact (out.takeFaultElsewhere _).forceHold _
  · exact h

theorem crystalReturns (h : HaltedByTwo s) : HaltedByTwo s.crystalReturns := by
  refine HaltedByTwo.of_same ?_ (retimeFilters_only _).faultState
  exact h.of_same ⟨rfl, rfl, rfl⟩

theorem leaveDormant (h : HaltedByTwo s) : HaltedByTwo s.leaveDormant := by
  refine HaltedByTwo.of_same ?_ (softTests_only _).faultState
  exact h.of_running nofun rfl

theorem wakeOnLowSpeed (h : HaltedByTwo s) : HaltedByTwo s.wakeOnLowSpeed := by
  unfold State.wakeOnLowSpeed
  dsimp only
  split
  · exact (h.takeFault _).leaveDormant
  · exact h.takeFault _

theorem dormantReplyEnds (h : HaltedByTwo s) : HaltedByTwo s.dormantReplyEnds := by
  have ended : HaltedByTwo { s with reply := none, holding := s.holding.tail } := h.of_same ⟨rfl, rfl, rfl⟩
  unfold State.dormantReplyEnds
  dsimp only
  split
  · exact h.of_same ⟨rfl, rfl, rfl⟩
  · split
    · exact ended.crystalReturns.leaveDormant
    · exact ended

/-- A reset leaves HALTED for CONFIGURATION, so that it may mark the record retained (R168). -/
theorem beginReset (s : State) (c : ResetCause) : HaltedByTwo (s.beginReset c) := of_unasked nofun rfl

theorem endReset (h : HaltedByTwo s) : HaltedByTwo s.endReset := by
  unfold State.endReset
  split
  · exact h.of_same ⟨rfl, rfl, rfl⟩
  · exact h

/-! ### Requests (R137, R138, R167) -/

theorem serveSetMode (h : HaltedByTwo s) (code : Byte) : HaltedByTwo (Machine.serveSetMode code s).1 := by
  unfold Machine.serveSetMode
  split
  · exact h
  · rename_i m _
    split
    · exact h
    · rename_i passes
      obtain ⟨notHalted, -⟩ := Standing.modeRefusal_none s m passes
      unfold State.takeMode
      dsimp only [accepted]
      split
      · exact h.of_running nofun rfl
      · rename_i notDormant
        split
        · exact ⟨h.second, fun same => notHalted (Option.some.inj same), fun same => notDormant (Option.some.inj same)⟩
        · exact changeMode s notHalted .request

/-- HALTED refuses CLEAR FAULT, so the record of a double fault stands (R151, R167). -/
theorem serve (h : HaltedByTwo s) (r : Request) (taken : Request.takenInHalted r = false → s.mode ≠ .halted) :
    HaltedByTwo (serve r s).1 := by
  by_cases sets : ∃ m, r = .setMode m
  · obtain ⟨m, rfl⟩ := sets
    exact h.serveSetMode m
  · by_cases clears : r = .clearFault
    · subst clears
      exact h.of_running (taken rfl) rfl
    · exact h.of_same (serve_faultState s r (fun m is => sets ⟨m, is⟩) clears)

end HaltedByTwo

theorem haltedByTwo_requests : KeptByRequests HaltedByTwo where
  port _ _ _ _ _ h := h.of_same ⟨rfl, rfl, rfl⟩
  silence _ _ h := h.of_same ⟨rfl, rfl, rfl⟩
  serve _ r h taken := h.serve r taken

/-- Every event keeps HALTED tied to a second fault kind. -/
theorem haltedByTwo_kept : KeptByEvents HaltedByTwo where
  queue _ _ h := h.of_same ⟨rfl, rfl, rfl⟩
  intake _ _ h := h.of_same ⟨rfl, rfl, rfl⟩
  frame _ f h := haltedByTwo_requests.frameArrives h f
  portReplyEnds _ r h _ _ := haltedByTwo_requests.portReplyEnds h r
  dormantReplyEnds _ h _ := h.dormantReplyEnds
  commandReset s _ _ := (HaltedByTwo.beginReset s .command).endReset
  silence _ h := h.silenceExpires
  look _ active u h := h.look active u
  loss _ h := h.findLoss
  testedBehind _ x u h _ _ _ _ := h.findLoss.tested x u h.findLoss
  clearBehind _ h _ _ running := h.findLoss.of_running running rfl
  lineIdle _ _ h _ _ _ := h.of_same ⟨rfl, rfl, rfl⟩
  ends _ x o h _ _ := h.endExchange x o
  answerForms s x h _ _ := (h.of_same (formAnswer_faultState s x)).of_same ⟨rfl, rfl, rfl⟩
  commandLeaves _ _ h _ := h.of_same ⟨rfl, rfl, rfl⟩
  answerStarts _ _ h _ := h.of_same ⟨rfl, rfl, rfl⟩
  underflow s n h := h.of_same (underflow_only 8 s n).faultState
  tick _ _ h := h.of_same ⟨rfl, rfl, rfl⟩
  divider _ _ h := h.of_same ⟨rfl, rfl, rfl⟩
  uptime _ _ h := h.of_same ⟨rfl, rfl, rfl⟩
  silenceTick _ h := h.of_same ⟨rfl, rfl, rfl⟩
  pin _ _ _ h := h.of_same ⟨rfl, rfl, rfl⟩
  filter s l h _ := h.of_same (filterTakes_only s l).faultState
  softTest s l h := h.of_same (softTest_only s l).faultState
  wakeTold s w h := h.of_same (tellWake_only s w).faultState
  wakeOnCrystal _ h _ := h.crystalReturns.leaveDormant
  wakeOnLowSpeed _ h _ := h.wakeOnLowSpeed
  crystalReturns _ h _ _ := h.crystalReturns
  startsUp s h _ := by
    have done : HaltedByTwo { s with startUp := .done } := h.of_same ⟨rfl, rfl, rfl⟩
    exact done.crystalReturns
  startTimeout s h _ := by
    have done : HaltedByTwo { s with startUp := .done } := h.of_same ⟨rfl, rfl, rfl⟩
    exact done.takeFault _
  powerReset s _ := (HaltedByTwo.beginReset s .power).of_same ⟨rfl, rfl, rfl⟩
  supplyRises _ h _ := h.of_same ⟨rfl, rfl, rfl⟩
  supplyGood s h _ := by
    have good : HaltedByTwo { s with supply := .good } := h.of_same ⟨rfl, rfl, rfl⟩
    exact good.endReset
  pinReset s _ _ := (HaltedByTwo.beginReset s .pin).of_same ⟨rfl, rfl, rfl⟩
  resetPin _ _ h := h.of_same ⟨rfl, rfl, rfl⟩
  pinNegated s h _ := by
    have negated : HaltedByTwo { s with resetPin := false, pinResetHeld := false } := h.of_same ⟨rfl, rfl, rfl⟩
    exact negated.endReset

end Sys2Proof.Machine

open Sys2Proof.Machine in
/-- Settles O59: only a double fault halts the part, and it writes the second kind; in HALTED the record is neither
filled nor cleared, and a reset that marks it retained leaves HALTED. -/
theorem stepKeepsHaltedHoldsSecond : Obligations.StepKeepsHaltedHoldsSecond := by
  intro s t lawful runs
  exact (haltedHoldsSecond_iff t).2 (haltedByTwo_kept.step ((haltedHoldsSecond_iff s).1 lawful) runs)
end

/-! ## Frames judged (R142, R151, R170, R173) -/
section
namespace Sys2Proof.Machine
open Sys2Proof.Safety

/-! ### The CHECK, the requests that HALTED takes, and the kinds -/

/-- The part's CRC-8 is the one taken bit by bit. -/
theorem crc8_eq (bytes : List Byte) : crc8 bytes = portCrc bytes := by
  have from_register : ∀ r : Byte, bytes.foldl (fun r b => eightTimes crc8Bit (r ^^^ b)) r =
      crcOf 0x07 r bytes := by
    induction bytes with
    | nil => intro r; rfl
    | cons b rest ih =>
      intro r
      rw [List.foldl_cons, crc8_byte, ih, ← crcOf_cons]
  exact from_register 0

theorem takenInHalted_iff (r : Request) : Request.takenInHalted r = true ↔
    r = .identify ∨ r = .status ∨ (∃ n, r = .fetch n) ∨ r = .readFault ∨ r = .reset := by
  refine ⟨fun taken => ?_, ?_⟩
  · by_contra others
    simp only [not_or, not_exists] at others
    obtain ⟨identify, status, fetch, readFault, reset⟩ := others
    exact nomatch taken.symm.trans (takenInHalted_false r identify status fetch readFault reset)
  · rintro (rfl | rfl | ⟨n, rfl⟩ | rfl | rfl) <;> rfl

/-- A request of each kind, in the order of TABLE 10-2. -/
def requestOfEachKind : List Request :=
  [.loadSlot 0 0 0 0 0 0 0 [], .releaseSlot 0, .readSlot 0, .start 0, .abortSlot 0, .abortAll, .stepEnable,
    .stepDisable, .stepAdvance, .enroll 0 0, .withdraw 0, .restore 0, .setCauseMask 0 0, .readStation 0,
    .setThreshold 0, .unmask 0, .raise 0, .setLoopAttention 0 0 0, .readAttention, .setTimer 0 0 0 0 0,
    .readTimers 0, .setMode 0, .reset, .clearCause, .fetch 0, .readFault, .clearFault, .writeSettings 0 [],
    .readSettings, .identify, .status]

/-- A byte is a request kind where a request has it. -/
theorem isRequestKind_iff (kind : Byte) : isRequestKind kind = true ↔ ∃ r, Request.kind r = kind := by
  refine ⟨fun known => ?_, fun ⟨r, same⟩ => same ▸ kind_isRequestKind r⟩
  have listed : kind.toNat ∈ requestOfEachKind.map (fun r => (Request.kind r).toNat) :=
    List.contains_iff_mem.1 known
  obtain ⟨r, -, same⟩ := List.mem_map.1 listed
  exact ⟨r, BitVec.eq_of_toNat_eq same⟩

theorem isRequestKind_false_iff (kind : Byte) :
    isRequestKind kind = false ↔ ∀ r : Request, Request.kind r ≠ kind := by
  rw [← Bool.not_eq_true, isRequestKind_iff, not_exists]

/-! ### The four tests of R173 -/

theorem restartSilence_eq (s : State) : s.restartSilence =
    { s with silence := if s.mode = .run then s.settings.silenceStart else s.silence } := by
  unfold State.restartSilence
  split <;> rfl

section
variable {f : Frame} {s : State}

theorem judge_badCheck (bad : f.check ≠ frameCheck f.kind f.tag f.body) :
    judge f s = (s, errorReply f.tag .badCheck []) := if_pos bad.symm

variable (good : f.check = frameCheck f.kind f.tag f.body)
include good

theorem judge_unknownKind (unknown : isRequestKind f.kind = false) :
    judge f s = (s.restartSilence, errorReply f.tag .unknownKind []) := by
  rw [judge, if_neg (not_not.2 good.symm), if_pos unknown]

variable (known : isRequestKind f.kind = true)
include known

theorem judge_badLength (unread : readBody f.kind f.body = none) :
    judge f s = (s.restartSilence, turnedAway f .badLength) := by
  rw [judge, if_neg (not_not.2 good.symm), if_neg (by rw [known]; nofun), unread]

variable {r : Request} (read : readBody f.kind f.body = some r)
include read

theorem judge_read : judge f s =
    if s.mode = .halted ∧ Request.takenInHalted r = false then (s.restartSilence, turnedAway f .halted)
    else answer f r s.restartSilence := by
  rw [judge, if_neg (not_not.2 good.symm), if_neg (by rw [known]; nofun), read]

theorem judge_halted (halted : s.mode = .halted) (untaken : Request.takenInHalted r = false) :
    judge f s = (s.restartSilence, turnedAway f .halted) :=
  (judge_read good known read).trans (if_pos ⟨halted, untaken⟩)

theorem judge_taken (taken : s.mode ≠ .halted ∨ Request.takenInHalted r = true) :
    judge f s = answer f r s.restartSilence := by
  refine (judge_read good known read).trans (if_neg fun ⟨halted, untaken⟩ => ?_)
  exact taken.elim (fun running => running halted) (fun takes => nomatch takes.symm.trans untaken)

end

end Sys2Proof.Machine

open Sys2Proof Sys2Proof.Machine Sys2Proof.Safety

/-- Settles O6: each test of R173 by the branch of the judging that it takes. -/
theorem framesAreJudgedInOrder : Obligations.FramesAreJudgedInOrder := by
  refine ⟨fun kind tag body => crc8_eq _, takenInHalted_iff, ?_⟩
  intro f s started alive error turned
  refine ⟨judge_badCheck, fun good => ⟨fun unknown => ?_, fun known => ⟨fun unread => ?_,
    fun r read => ⟨fun halted untaken => ?_, fun taken => ?_⟩⟩⟩⟩
  · exact (judge_unknownKind good unknown).trans (congrArg (·, error .unknownKind) (restartSilence_eq s))
  · exact (judge_badLength good known unread).trans (congrArg (·, turned .badLength) (restartSilence_eq s))
  · exact (judge_halted good known read halted untaken).trans
      (congrArg (·, turned .halted) (restartSilence_eq s))
  · exact (judge_taken good known read taken).trans (congrArg (answer f r) (restartSilence_eq s))
end

/-! ## Frames taken, held and counted, and the end of a reply (R170 to R173) -/
section
namespace Sys2Proof.Machine
open Sys2Proof.Safety

/-! ### A frame completes (R171, R172) -/

/-- The state in which the head frame has been judged and its reply is leaving TXD (R171). -/
def State.taking (f : Frame) (s : State) : State := { (judge f s).1 with reply := some (judge f s).2 }

theorem takeHead_cons {s : State} {f : Frame} {rest : List Frame} (head : s.holding = f :: rest) :
    s.takeHead = s.taking f := by
  rw [State.takeHead, head]
  rfl

section
variable {s : State} (takes : s.takesFrames = true) (f : Frame)
include takes

theorem frameArrives_counted {m : Overrun} (marked : s.overrun = some m) : s.frameArrives f =
    { s with intake := .search, overrun := some { m with count := min 255 (m.count + 1) } } := by
  rw [State.frameArrives, if_pos takes, marked]

theorem frameArrives_marks (unmarked : s.overrun = none) (full : 2 ≤ s.holding.length) : s.frameArrives f =
    { s with intake := .search, overrun := some { tag := f.tag, count := 1 } } := by
  rw [State.frameArrives, if_pos takes, unmarked]
  exact if_neg full.not_gt

theorem frameArrives_held (unmarked : s.overrun = none) (room : s.holding.length < 2) (sending : s.reply ≠ none) :
    s.frameArrives f = { s with intake := .search, holding := s.holding ++ [f] } := by
  have busy : ¬ s.reply.isNone = true := fun idle => sending (Option.isNone_iff_eq_none.1 idle)
  rw [State.frameArrives, if_pos takes, unmarked]
  dsimp only
  rw [if_pos room, if_neg busy]

theorem frameArrives_taken (unmarked : s.overrun = none) (empty : s.holding = []) (idle : s.reply = none) :
    s.frameArrives f = State.taking f { s with intake := .search, holding := [f] } := by
  have room : s.holding.length < 2 := by rw [empty]; decide
  rw [State.frameArrives, if_pos takes, unmarked]
  dsimp only
  rw [if_pos room, if_pos (Option.isNone_iff_eq_none.2 idle), empty]
  exact takeHead_cons rfl

end

/-! ### The character of the CHECK (R170) -/

theorem exec_requestFrameComplete {s : State} {len : Nat} {collected : List Byte}
    (collecting : s.intake = .body len collected) (whole : collected.length = len) (c : Character) :
    exec (.requestFrameComplete c) s = .next (s.receiveCharacter c) := by
  show execRequestFrameComplete c s = _
  rw [execRequestFrameComplete, collecting]
  exact congrArg Host.Outcome.next (if_pos whole)

/-- The byte after a whole KIND, TAG and BODY is the CHECK of their frame. -/
theorem receiveByte_check {s : State} {kind tag : Byte} {body : List Byte}
    (collected : s.intake = .body (body.length + 2) (kind :: tag :: body)) (check : Byte) :
    s.receiveByte check = s.frameArrives { kind := kind, tag := tag, body := body, check := check } := by
  rw [State.receiveByte, collected]
  exact if_neg (lt_irrefl _)

/-! ### The end of a reply (R171, R172) -/

section
variable {s : State}

theorem nextReply_idle (empty : s.holding = []) (unmarked : s.overrun = none) : s.nextReply = s := by
  rw [State.nextReply, if_pos empty, unmarked]

theorem nextReply_overrun (empty : s.holding = []) {m : Overrun} (marked : s.overrun = some m) : s.nextReply =
    { s with reply := some (errorReply m.tag .overrun [byte m.count]) } := by
  rw [State.nextReply, if_pos empty, marked]

theorem nextReply_head {f : Frame} {rest : List Frame} (head : s.holding = f :: rest) :
    s.nextReply = s.taking f := by
  rw [State.nextReply, if_neg (by rw [head]; exact List.cons_ne_nil f rest), takeHead_cons head]

variable {r : Reply}

theorem exec_replyEnd_awake (awake : s.mode ≠ .dormant) (sending : s.reply = some r) (other : r.isReset = false) :
    exec .replyEnd s = .next (s.portReplyEnds r) := by
  show execReplyEnd s = _
  rw [execReplyEnd, sending]
  dsimp only
  rw [if_neg (by rw [other]; nofun), if_neg awake]

theorem portReplyEnds_overrun (overran : r.status = .overrun) :
    s.portReplyEnds r = State.nextReply { s with reply := none, overrun := none } :=
  if_pos (decide_eq_true overran)

theorem portReplyEnds_frame (told : r.status ≠ .overrun) :
    s.portReplyEnds r = State.nextReply { s with reply := none, holding := s.holding.tail } :=
  if_neg fun overran => told (of_decide_eq_true overran)

end

/-! ### A frame of another kind (R173) -/

theorem exec_unknownKind {kind : Byte} (unknown : isRequestKind kind = false) (tag : Byte) (body : List Byte)
    (s : State) : exec (.unknownKind tag kind body) s = .next (s.frameArrives (goodFrame kind tag body)) :=
  congrArg Host.Outcome.next (if_neg (by rw [unknown]; nofun))

/-- What restarts at a free port's judging of a frame makes the state that the frame's owner would find. -/
theorem restartSilence_arrived (f : Frame) (s : State) :
    State.restartSilence { s with intake := .search, holding := [f] } = arrived f s := restartSilence_eq _

end Sys2Proof.Machine

open Sys2Proof Sys2Proof.Machine Sys2Proof.Safety

/-- Settles O5: the CHECK's character completes the frame, which then finds the marker, the holding and TXD as
each clause says. -/
theorem completedFrameIsTakenHeldOrCounted : Obligations.CompletedFrameIsTakenHeldOrCounted := by
  intro kind tag check body s takes collected f
  have completes : exec (.requestFrameComplete (sampled check)) s = .next (s.frameArrives f) := by
    rw [exec_requestFrameComplete collected rfl, receiveCharacter_sampled, receiveByte_check collected]
  refine ⟨fun c error => ?_, fun unmarked empty idle => ?_, fun unmarked room sending => ?_,
    fun unmarked full => ?_, fun m marked => ?_⟩
  · rw [exec_requestFrameComplete collected rfl, receiveCharacter_broken s c error]
  · rw [completes, frameArrives_taken takes f unmarked empty idle]
    rfl
  · rw [completes, frameArrives_held takes f unmarked room sending]
  · rw [completes, frameArrives_marks takes f unmarked full]
  · rw [completes, frameArrives_counted takes f marked]

/-- Settles O9: by the reply that ends, and then by what the holding and the marker leave to send. -/
theorem replyEndTakesTheNextFrame : Obligations.ReplyEndTakesTheNextFrame := by
  refine ⟨isReset_iff, fun s r sending other awake => ?_⟩
  have ends := exec_replyEnd_awake awake sending other
  refine ⟨fun told last unmarked => ?_, fun m told last marked => ?_, fun f rest told next => ?_,
    fun overran empty => ?_⟩
  · rw [ends, portReplyEnds_frame told, last]
    exact congrArg Host.Outcome.next (nextReply_idle rfl unmarked)
  · rw [ends, portReplyEnds_frame told, last]
    exact congrArg Host.Outcome.next (nextReply_overrun rfl marked)
  · rw [ends, portReplyEnds_frame told, next]
    exact congrArg Host.Outcome.next (nextReply_head rfl)
  · rw [ends, portReplyEnds_overrun overran]
    exact congrArg Host.Outcome.next (nextReply_idle empty rfl)

/-- Settles O7: the codes are those of `requestOfEachKind`, and the second test of R173 turns any other away. -/
theorem unknownKindGetsAnErrorReply : Obligations.UnknownKindGetsAnErrorReply := by
  refine ⟨fun kind => ⟨?_, isRequestKind_false_iff kind⟩, fun tag kind body s free other => ?_⟩
  · rw [← isRequestKind_false_iff, ← Bool.not_eq_true]
    exact not_congr List.contains_iff_mem
  · have unknown := (isRequestKind_false_iff kind).2 other
    obtain ⟨takes, idle, empty, unmarked⟩ := free
    rw [exec_unknownKind unknown, frameArrives_taken takes _ unmarked empty idle, State.taking,
      judge_unknownKind rfl unknown, restartSilence_arrived]
    rfl
end

/-! ## Request bodies and the bytes of a request frame (R169 to R173, R178, R179, TABLE 10-2, TABLE 11-4) -/
section
namespace Sys2Proof.Machine
open Sys2Proof.Safety

/-! ### The bytes of a body (R178) -/

theorem bytes16_low2 (w : Half) : bytes16 w = low2 w.toNat := by
  rw [bytes16, loByte_eq, hiByte_eq, low2]

/-- A byte of a word is the word's number divided down to it. -/
theorem extract_byte {n : Nat} (w : BitVec n) (k : Nat) : w.extractLsb' k 8 = byte (w.toNat / 2 ^ k) := by
  apply BitVec.eq_of_toNat_eq
  rw [BitVec.extractLsb'_toNat, Nat.shiftRight_eq_div_pow, byte, BitVec.toNat_ofNat]

theorem bytes32_low4 (w : BitVec 32) : bytes32 w = low4 w.toNat := by
  simp only [bytes32, low4, extract_byte]
  norm_num

/-! ### What a body read says of its kind (R173, R179) -/

/-- The number of a kind and a body are those that a well-formed request writes. -/
def Carries (number : Nat) (body : List Byte) (r : Request) : Prop :=
  number = (Request.kind r).toNat ∧ body = Request.body r ∧ Request.wellFormed r = true

section
variable {number : Nat} {body : List Byte} {r : Request}

theorem noByte_carries {q : Request} (own : Carries number [] q) (read : noByte q body = some r) :
    Carries number body r := by
  obtain ⟨rfl, rfl⟩ := (noByte_eq_some q r body).1 read
  exact own

theorem oneByte_carries {f : Byte → Request} (own : ∀ b, Carries number [b] (f b))
    (read : oneByte f body = some r) : Carries number body r := by
  obtain ⟨b, rfl, rfl⟩ := (oneByte_eq_some f r body).1 read
  exact own b

theorem byteAndHalf_carries {f : Byte → Half → Request} (own : ∀ b w, Carries number (b :: bytes16 w) (f b w))
    (read : byteAndHalf f body = some r) : Carries number body r := by
  obtain ⟨b, w, rfl, rfl⟩ := byteAndHalf_only f r body read
  exact own b w

theorem readStart_carries (read : readStart body = some r) : Carries 4 body r := by
  obtain ⟨set, rfl, rfl⟩ := readStart_only r body read
  exact ⟨rfl, rfl, rfl⟩

theorem readSetLoopAttention_carries (read : readSetLoopAttention body = some r) : Carries 51 body r := by
  obtain ⟨l, w, cause, rfl, rfl⟩ := readSetLoopAttention_only r body read
  exact ⟨rfl, rfl, rfl⟩

theorem readSetTimer_carries (read : readSetTimer body = some r) : Carries 64 body r := by
  obtain ⟨n, src, w, soft, flags, rfl, rfl⟩ := readSetTimer_only r body read
  exact ⟨rfl, rfl, rfl⟩

theorem readLoadSlot_carries (read : readLoadSlot body = some r) : Carries 1 body r := by
  obtain ⟨n, st, c, p, l, t, o, payload, rfl, fits, rfl⟩ := readLoadSlot_only r body read
  exact ⟨rfl, rfl, decide_eq_true fits⟩

theorem readWriteSettings_carries (read : readWriteSettings body = some r) : Carries 120 body r := by
  obtain ⟨mask, values, rfl, fits, rfl⟩ := readWriteSettings_only r body read
  exact ⟨rfl, rfl, beq_iff_eq.2 fits⟩

/-- A body that is read under a kind is the body of a request of that kind, by the reader of the kind. -/
theorem readBody_carries {kind : Byte} (read : readBody kind body = some r) : Carries kind.toNat body r := by
  unfold readBody at read
  generalize kind.toNat = number at read ⊢
  split at read
  case h_1 => exact readLoadSlot_carries read
  case h_4 => exact readStart_carries read
  case h_18 => exact readSetLoopAttention_carries read
  case h_20 => exact readSetTimer_carries read
  case h_28 => exact readWriteSettings_carries read
  case h_10 | h_13 => exact byteAndHalf_carries (fun _ _ => ⟨rfl, rfl, rfl⟩) read
  case h_2 | h_3 | h_5 | h_11 | h_12 | h_14 | h_15 | h_16 | h_17 | h_21 | h_22 | h_25 =>
    exact oneByte_carries (fun _ => ⟨rfl, rfl, rfl⟩) read
  case h_6 | h_7 | h_8 | h_9 | h_19 | h_23 | h_24 | h_26 | h_27 | h_29 | h_30 | h_31 =>
    exact noByte_carries ⟨rfl, rfl, rfl⟩ read
  case h_32 => exact nomatch read

end

/-! ### The bytes of a frame, one after the other (R170) -/

/-- A frame can carry the body of every well-formed request. -/
theorem body_length_le (r : Request) (carried : Request.wellFormed r = true) : (Request.body r).length ≤ 64 := by
  cases r with
  | loadSlot n st c p retries t o payload =>
    have fits : payload.length ≤ 57 := of_decide_eq_true carried
    simp only [Request.body, List.length_append, List.length_cons, List.length_nil]
    omega
  | writeSettings mask values =>
    have fits : values.length = namedCount mask := eq_of_beq carried
    have few := Laws.FrameFits.namedCount_le mask
    simp only [Request.body, List.length_cons]
    omega
  | _ => exact Nat.le_of_ble_eq_true rfl

/-- What was collected before a frame completes does not bear on what becomes of the frame. -/
theorem frameArrives_intake {s : State} (takes : s.takesFrames = true) (i : Intake) (f : Frame) :
    State.frameArrives { s with intake := i } f = s.frameArrives f := by
  have still : State.takesFrames { s with intake := i } = true := takes
  rw [State.frameArrives, State.frameArrives, if_pos takes, if_pos still]

section
variable {s : State} (takes : s.takesFrames = true)
include takes

theorem receiveAll_cons (b : Byte) (rest : List Byte) :
    receiveAll (b :: rest) s = receiveAll rest (s.receiveByte b) := by
  have heard : exec (.requestByteReceived (sampled b)) s = .next (s.receiveByte b) := by
    rw [exec_requestByteReceived s _ takes, receiveCharacter_sampled]
  rw [receiveAll, heard]

/-- Bytes that a LEN has announced are collected. -/
theorem receiveAll_collects {len : Nat} (bytes rest : List Byte) {collected : List Byte}
    (fits : collected.length + bytes.length ≤ len) :
    receiveAll (bytes ++ rest) { s with intake := .body len collected } =
      receiveAll rest { s with intake := .body len (collected ++ bytes) } := by
  induction bytes generalizing collected with
  | nil => rw [List.append_nil]; rfl
  | cons b bytes ih =>
    rw [List.length_cons] at fits
    have more : collected.length < len := by omega
    rw [List.cons_append, receiveAll_cons (s := { s with intake := .body len collected }) takes,
      receiveByte_body { s with intake := .body len collected } b rfl more]
    have room : (collected ++ [b]).length + bytes.length ≤ len := by
      rw [List.length_append, List.length_singleton]; omega
    have next := ih (collected := collected ++ [b]) room
    rwa [List.append_assoc] at next

/-- SYNC and a LEN in its range open the collecting of the bytes announced. -/
theorem receiveAll_opens (searching : s.intake = .search) {n : Nat} (atLeast : 2 ≤ n) (atMost : n ≤ 66)
    (rest : List Byte) : receiveAll (0xA5 :: byte n :: rest) s = receiveAll rest { s with intake := .body n [] } := by
  have number : (byte n).toNat = n := by
    rw [byte, BitVec.toNat_ofNat]; omega
  have opens : intakeAfterLen (byte n) = .body n [] := by
    rw [intakeAfterLen, number, if_pos ⟨atLeast, atMost⟩]
  rw [receiveAll_cons takes, receiveByte_search s _ searching, if_pos rfl,
    receiveAll_cons (s := { s with intake := .length }) takes,
    receiveByte_length { s with intake := .length } _ rfl, opens]

/-- The byte after a whole KIND, TAG and BODY is the arrival of their frame. -/
theorem receiveAll_completes (kind tag check : Byte) (body : List Byte) :
    receiveAll [check] { s with intake := .body (body.length + 2) (kind :: tag :: body) } =
      .next (s.frameArrives { kind := kind, tag := tag, body := body, check := check }) := by
  rw [receiveAll_cons (s := { s with intake := .body (body.length + 2) (kind :: tag :: body) }) takes,
    receiveByte_check rfl, frameArrives_intake takes]
  rfl

end

end Sys2Proof.Machine

open Sys2Proof Sys2Proof.Machine Sys2Proof.Safety

/-- Settles O2: each body as its request writes it, and each reader by the bodies that it takes. -/
theorem requestBodiesReadBack : Obligations.RequestBodiesReadBack := by
  refine ⟨fun r => ?_, fun kind body r read => ?_, fun r carried =>
    ⟨kind_isRequestKind r, readBody_body r carried⟩⟩
  · cases r with
    | start set => exact congrArg (4, ·) (bytes24_low3 set)
    | enroll st mask => exact congrArg (fun w => (32, st :: w)) (bytes16_low2 mask)
    | setCauseMask st mask => exact congrArg (fun w => (35, st :: w)) (bytes16_low2 mask)
    | setLoopAttention l set cause => exact congrArg (fun w => (51, l :: (w ++ [cause]))) (bytes32_low4 set)
    | setTimer n src reload soft flags =>
      exact congrArg (fun w => (64, [n, src] ++ w ++ [soft, flags])) (bytes16_low2 reload)
    | _ => rfl
  · obtain ⟨number, bytes, carried⟩ := readBody_carries read
    exact ⟨BitVec.eq_of_toNat_eq number, bytes, carried⟩

/-- Settles O3: SYNC and LEN open the collecting, KIND, TAG and BODY fill it, and the CHECK completes the frame
whose arrival is the request's command. -/
theorem bytesMakeTheRequestsFrame : Obligations.BytesMakeTheRequestsFrame := by
  intro tag r s carried takes searching
  have short := body_length_le r carried
  have filled := receiveAll_collects takes (len := (Request.body r).length + 2)
    (Request.kind r :: tag :: Request.body r) [frameCheck (Request.kind r) tag (Request.body r)]
    (collected := []) (by simp)
  have completes := receiveAll_completes takes (Request.kind r) tag
    (frameCheck (Request.kind r) tag (Request.body r)) (Request.body r)
  rw [requestBytes, receiveAll_opens takes searching (by omega) (by omega), exec_commandOf]
  exact filled.trans completes
end

/-! ## Reply frames, reply bodies and report records (R169, R178, R180, R181, TABLES 11-1 to 11-3, 11-5, 11-6) -/
section
namespace Sys2Proof.Machine
open Sys2Proof.Safety

/-! ### Quantities, sets and codes as they are carried (R178) -/

theorem stationBytes_low4 (w : StationSet) : stationBytes w = low4 w.toNat := by
  have fits : w.toNat < 2 ^ 32 := w.isLt.trans (by decide)
  rw [stationBytes, bytes32_low4, BitVec.toNat_setWidth, Nat.mod_eq_of_lt fits]

theorem originBytes_low2 (o : Origins) : originBytes o = low2 o.toNat := by
  have fits : o.toNat < 2 ^ 16 := o.isLt.trans (by decide)
  rw [originBytes, bytes16_low2, BitVec.toNat_setWidth, Nat.mod_eq_of_lt fits]

/-- A number carried in two bytes, whatever stands above them. -/
theorem bytes16_ofNat (n : Nat) : bytes16 (BitVec.ofNat 16 n) = low2 n := by
  have low : byte (n % 65536) = byte n := by
    apply BitVec.eq_of_toNat_eq
    simp only [byte, BitVec.toNat_ofNat]
    omega
  have high : byte (n % 65536 / 256) = byte (n / 256) := by
    apply BitVec.eq_of_toNat_eq
    simp only [byte, BitVec.toNat_ofNat]
    omega
  rw [bytes16_low2, BitVec.toNat_ofNat, low2, low2]
  exact congrArg₂ (fun a b => [a, b]) low high

theorem flagBit_values (n : Fin 8) : flagBit true n.val = byte (2 ^ n.val) ∧ flagBit false n.val = 0 := by
  revert n; decide

/-- The code of a wake by a line level is 0x10 and the level's number (TABLE 11-3). -/
theorem wakeCode_attention (l : LineId) : (WakeSource.attention l).code = byte (0x10 + (4 + l.val)) := by
  revert l; decide

theorem triggerCode_elim (t : Option TimerId) : triggerCode t = t.elim 0xFF (fun n => byte n.val) := by
  cases t <;> rfl

theorem wakeLevelsByte (w : BitVec 4) : w ++ (0 : BitVec 4) = byte (16 * w.toNat) := by revert w; decide

/-- The set of line levels in a byte, bit n for level n (TABLE 11-6). -/
def levelSet (levels : List LineId) : Byte := levels.foldl (fun w l => w ||| ((1 : Byte) <<< (4 + l.val))) 0

theorem levelSet_bit (levels : List LineId) (k : Fin 8) :
    (levelSet levels).getLsbD k.val = decide (∃ l ∈ levels, k.val = 4 + l.val) := by
  have one : ∀ l : LineId, ((1 : Byte) <<< (4 + l.val)).getLsbD k.val = decide (k.val = 4 + l.val) := by
    revert k; decide
  have bits : ∀ (levels : List LineId) (w : Byte),
      (levels.foldl (fun w l => w ||| ((1 : Byte) <<< (4 + l.val))) w).getLsbD k.val =
        (w.getLsbD k.val || decide (∃ l ∈ levels, k.val = 4 + l.val)) := by
    intro levels
    induction levels with
    | nil => intro w; simp
    | cons l levels ih =>
      intro w
      rw [List.foldl_cons, ih, BitVec.getLsbD_or, one]
      simp [Bool.or_assoc]
  rw [levelSet, bits]
  simp

/-! ### Report records (R181) -/

/-- A record is its kind, its length, its stamp and its fields. -/
theorem record_eq {filler : Byte × Byte} {body : ReportBody} {kind : Byte} {fields : List Byte} (stamp : Stamp)
    (carried : body.fields filler = (kind, fields)) : Report.record filler ⟨stamp, body⟩ =
      kind :: byte (6 + fields.length) :: (low4 stamp.toNat ++ fields) := by
  simp only [Report.record, carried, bytes32_low4, Nat.add_comm fields.length]
  rfl

theorem record_length (filler : Byte × Byte) (r : Report) :
    (r.record filler).length = 6 + (r.body.fields filler).2.length := by
  simp only [Report.record, bytes32, List.length_append, List.length_cons, List.length_nil]

/-! ### Lengths of bodies (R180) -/

theorem slotBody_length (s : State) (i : SlotId) : (s.slotBody i).length =
    18 + s.slots[i].payload.length + (s.slots[i].response.getD []).length := by
  simp only [State.slotBody, bytes16, List.length_append, List.length_cons, List.length_nil]
  omega

theorem lineBody_length (s : State) (l : LineId) : (s.lineBody l).length = 15 + s.lines[l].serviceList.length := by
  simp only [State.lineBody, stationBytes, bytes32, List.length_append, List.length_cons, List.length_nil,
    List.length_map]
  omega

theorem attentionBody_length (s : State) : s.attentionBody.length =
    67 + s.lines[(0 : LineId)].serviceList.length + s.lines[(1 : LineId)].serviceList.length +
      s.lines[(2 : LineId)].serviceList.length + s.lines[(3 : LineId)].serviceList.length := by
  have line (l : LineId) := lineBody_length s l
  simp only [State.attentionBody, originBytes, bytes16, List.length_append, List.length_cons, List.length_nil, line]
  omega

theorem timersBody_length (s : State) : s.timersBody.length = 96 := rfl

theorem faultBody_length (f : Option FaultRecord) : (faultBody f).length = if f.isSome then 13 else 0 := by
  cases f <;> rfl

end Sys2Proof.Machine

open Sys2Proof Sys2Proof.Machine Sys2Proof.Safety

/-- Settles O13: each number, code, body and record by the lemma on how it is carried, and then the lengths. -/
theorem repliesAndRecordsHaveTheirBytes : Obligations.RepliesAndRecordsHaveTheirBytes := by
  refine ⟨fun n => BitVec.toNat_ofNat n 8, flagBit_values, ⟨rfl, fun _ => rfl⟩, crc8_eq, fun r => ?reply,
    ⟨rfl, rfl, rfl, rfl⟩,
    ⟨rfl, rfl, rfl, rfl, fun _ _ _ _ _ => rfl, rfl, rfl, rfl, rfl, rfl, rfl, rfl, rfl, wakeCode_attention,
      fun _ => rfl, rfl, rfl, rfl, rfl, rfl⟩,
    fun s i => ?slot, fun e => ?station, fun s => ?attention, fun s => ?timers, fun t => ?settings, rfl,
    fun f => ?fault, fun filler stamp => ?records, fun s i payload response => ?slotLength, fun _ => rfl,
    timersBody_length, fun _ => rfl, fun _ => ⟨rfl, rfl⟩, faultBody_length, fun s lists => ?attentionLength,
    fun filler r => ?recordLengths⟩
  case reply =>
    intro covered
    exact ⟨congrArg (fun check => 0x5A :: (covered ++ [check])) (crc8_eq covered), rfl⟩
  case slot =>
    intro r
    simp only [State.slotBody, triggerCode_elim, bytes16_low2, decide_eq_true_eq]
    rfl
  case station => rw [stationBody, bytes16_low2]
  case attention =>
    intro level
    have line (l : LineId) : s.lineBody l = level l := by
      simp only [State.lineBody, stationBytes_low4]
      rfl
    simp only [State.attentionBody, line, originBytes_low2, List.append_assoc]
    rfl
  case timers =>
    refine congrArg allTimers.flatMap (funext fun n => ?_)
    simp only [timerBody, bytes16_ofNat]
  case settings => rw [settingsBody, wakeLevelsByte]
  case fault => simp only [faultBody, bytes32_low4]
  case records =>
    intro recorded
    refine ⟨fun slot st c o refusal response attempts late run tooLate => record_eq stamp ?_,
      fun st reason old new score identity failed =>
        ⟨slotsToSet failed, slotsToSet_bit failed, record_eq stamp ?_⟩,
      fun _ _ _ _ => record_eq stamp rfl,
      fun st levels last => ⟨levelSet levels, levelSet_bit levels, record_eq stamp rfl⟩,
      fun l set union => record_eq stamp ?_, fun l o => record_eq stamp ?_,
      fun _ _ _ _ _ => record_eq stamp rfl, fun _ _ _ _ => record_eq stamp rfl⟩
    · rw [ReportBody.fields, bytes16_low2]
    · rw [ReportBody.fields, bytes24_low3]
    · rw [ReportBody.fields, stationBytes_low4]
    · rw [ReportBody.fields, originBytes_low2]
  case slotLength =>
    rw [slotBody_length]
    omega
  case attentionLength =>
    have one := lists 0
    have two := lists 1
    have three := lists 2
    have four := lists 3
    rw [attentionBody_length]
    omega
  case recordLengths =>
    have told {body : ReportBody} (is : r.body = body) :
        (r.record filler).length = 6 + (body.fields filler).2.length := by rw [record_length, is]
    refine ⟨fun slot st c o refusal response attempts late run tooLate is => (told is).trans ?_,
      fun _ _ _ _ _ _ _ is => told is, fun l st c detail is => (told is).trans ?_, fun _ _ _ is => told is,
      fun _ _ _ is => told is, fun _ _ is => told is, fun _ _ _ _ _ is => told is, fun _ _ _ _ is => told is⟩
    · simp only [ReportBody.fields, bytes16, List.length_append, List.length_cons, List.length_nil]
      omega
    · simp only [ReportBody.fields, List.length_append, List.length_cons, List.length_nil]
      omega
end

/-! ## WRITE SETTINGS (R175, R178, R179, TABLE 10-4) -/
section
namespace Sys2Proof.Machine
open Sys2Proof.Safety

/-! ### One field (R175 check 2) -/

/-- The values that the field of a mask bit takes, in the units of R179; every byte is a host timeout. -/
def fieldFits (k : Nat) (v : Byte) : Prop :=
  match k with
  | 0 | 3 => v.toNat < 4
  | 1 => 2 ≤ v.toNat ∧ v.toNat ≤ 200
  | 2 => 1 ≤ v.toNat ∧ v.toNat ≤ 50
  | 5 => v.toNat % 16 = 0
  | _ => True

/-- The settings with the field of a mask bit taking a value, where the mask names the field. -/
def Settings.withField (t : Settings) (k : Nat) (named : Bool) (v : Byte) : Settings :=
  match k with
  | 0 => { t with linkRate :=
      if named then [LinkRate.kbit250, .kbit500, .mbit1, .mbit2].getD v.toNat .kbit250 else t.linkRate }
  | 1 => { t with replyWindow := if named then v.toNat else t.replyWindow }
  | 2 => { t with broadcastGap := if named then v.toNat else t.broadcastGap }
  | 3 => { t with filter :=
      if named then [FilterTime.us0, .us4, .us16, .us64].getD v.toNat .us0 else t.filter }
  | 4 => { t with hostTimeout := if named then v.toNat else t.hostTimeout }
  | 5 => { t with wakeLevels := if named then v.extractLsb' 4 4 else t.wakeLevels }
  | _ => t

theorem withField_unnamed (t : Settings) (k : Nat) (v : Byte) : t.withField k false v = t := by
  unfold Settings.withField
  split <;> rfl

theorem linkRate_ofCode (v : Byte) : LinkRate.ofCode v =
    if v.toNat < 4 then some ([LinkRate.kbit250, .kbit500, .mbit1, .mbit2].getD v.toNat .kbit250) else none := by
  revert v; decide

theorem filterTime_ofCode (v : Byte) : FilterTime.ofCode v =
    if v.toNat < 4 then some ([FilterTime.us0, .us4, .us16, .us64].getD v.toNat .us0) else none := by
  revert v; decide

theorem lowNibble_zero_iff (v : Byte) : v &&& 0x0F = 0 ↔ v.toNat % 16 = 0 := by revert v; decide

/-- A field is written by exactly the values that fit it. -/
theorem writeField_eq_some (t u : Settings) {k : Nat} (field : k < 6) (v : Byte) :
    t.writeField k v = some u ↔ fieldFits k v ∧ t.withField k true v = u := by
  match k, field with
  | 0, _ => simp [Settings.writeField, linkRate_ofCode, fieldFits, Settings.withField]
  | 1, _ => simp [Settings.writeField, fieldFits, Settings.withField]
  | 2, _ => simp [Settings.writeField, fieldFits, Settings.withField]
  | 3, _ => simp [Settings.writeField, filterTime_ofCode, fieldFits, Settings.withField]
  | 4, _ => simp [Settings.writeField, fieldFits, Settings.withField]
  | 5, _ => simp [Settings.writeField, fieldFits, Settings.withField, ← lowNibble_zero_iff]

/-! ### The named fields in turn (R179) -/

/-- How many fields the mask names below a bit: the place of that bit's value in the body. -/
def namedBelow (mask : Byte) (k : Nat) : Nat := (List.range k).countP (fun j => mask.getLsbD j)

/-- The value that a body carries for the field of a mask bit. -/
def fieldValue (mask : Byte) (values : List Byte) (k : Nat) : Byte := values.getD (namedBelow mask k) 0

/-- The settings with the fields that the mask names, of the bits given, taking their values. -/
def Settings.withFields (t : Settings) (mask : Byte) (values : List Byte) (ks : List Nat) : Settings :=
  ks.foldl (fun t k => t.withField k (mask.getLsbD k) (fieldValue mask values k)) t

theorem namedBelow_succ (mask : Byte) (k : Nat) :
    namedBelow mask (k + 1) = namedBelow mask k + if mask.getLsbD k then 1 else 0 := by
  rw [namedBelow, List.range_succ, List.countP_append, List.countP_singleton]
  rfl

theorem namedBelow_mono (mask : Byte) {j k : Nat} (below : j ≤ k) : namedBelow mask j ≤ namedBelow mask k :=
  (List.range_sublist.2 below).countP_le

/-- The bytes from the place of a named field on begin with that field's value. -/
theorem drop_named {mask : Byte} {values : List Byte} (whole : values.length = namedBelow mask 6) {k : Nat}
    (field : k < 6) (named : mask.getLsbD k = true) : values.drop (namedBelow mask k) =
      fieldValue mask values k :: values.drop (namedBelow mask (k + 1)) := by
  have next : namedBelow mask (k + 1) = namedBelow mask k + 1 := by rw [namedBelow_succ, if_pos named]
  have present : namedBelow mask k < values.length := by
    have last := namedBelow_mono mask (show k + 1 ≤ 6 from field)
    omega
  rw [List.drop_eq_getElem_cons present, fieldValue, List.getD_eq_getElem _ _ present, next]

/-- The fields of the bits from `n` on are written by exactly the bodies whose values fit them. -/
theorem writeFields_eq_some {mask : Byte} {values : List Byte} (whole : values.length = namedBelow mask 6)
    (u : Settings) (m : Nat) : ∀ (n : Nat) (t : Settings), n + m = 6 →
      (t.writeFields ((List.range' n m).filter (fun k => mask.getLsbD k))
          (values.drop (namedBelow mask n)) = some u ↔
        (∀ k ∈ List.range' n m, mask.getLsbD k = true → fieldFits k (fieldValue mask values k)) ∧
          t.withFields mask values (List.range' n m) = u) := by
  induction m with
  | zero =>
    intro n t _
    simp [Settings.writeFields, Settings.withFields]
  | succ m ih =>
    intro n t bits
    have field : n < 6 := by omega
    have rest (t : Settings) := ih (n + 1) t (by omega)
    rw [List.range'_succ, List.forall_mem_cons, Settings.withFields, List.foldl_cons]
    by_cases named : mask.getLsbD n = true
    · rw [List.filter_cons_of_pos named, drop_named whole field named, Settings.writeFields, Option.bind_eq_some_iff]
      simp only [writeField_eq_some t _ field, rest, named]
      constructor
      · rintro ⟨w, ⟨fits, rfl⟩, others, rfl⟩
        exact ⟨⟨fun _ => fits, others⟩, rfl⟩
      · rintro ⟨⟨fits, others⟩, rfl⟩
        exact ⟨_, ⟨fits trivial, rfl⟩, others, rfl⟩
    · have place : namedBelow mask n = namedBelow mask (n + 1) := by rw [namedBelow_succ, if_neg named]; rfl
      rw [List.filter_cons_of_neg named, place, rest, eq_false_of_ne_true named, withField_unnamed]
      exact and_congr_left' ⟨fun others => ⟨nofun, others⟩, fun fits => fits.2⟩

/-! ### The checks in order (R175) -/

theorem restrictedMask_iff (mask : Byte) : restrictedMask mask = true ↔
    mask.getLsbD 0 = true ∨ mask.getLsbD 1 = true ∨ mask.getLsbD 2 = true := by
  revert mask; decide

section
variable {mask : Byte} {values : List Byte} (whole : values.length = namedBelow mask 6)

/-- Every value of the body fits the field that it is named for. -/
def ValuesFit (mask : Byte) (values : List Byte) : Prop :=
  ∀ k ∈ List.range 6, mask.getLsbD k = true → fieldFits k (fieldValue mask values k)

/-- The fields one by one: every byte is a host timeout, so bit 4 asks nothing. -/
theorem valuesFit_iff (mask : Byte) (values : List Byte) :
    let value (k : Nat) : Byte := fieldValue mask values k
    ValuesFit mask values ↔
      (mask.getLsbD 0 = true → (value 0).toNat < 4) ∧
      (mask.getLsbD 1 = true → 2 ≤ (value 1).toNat ∧ (value 1).toNat ≤ 200) ∧
      (mask.getLsbD 2 = true → 1 ≤ (value 2).toNat ∧ (value 2).toNat ≤ 50) ∧
      (mask.getLsbD 3 = true → (value 3).toNat < 4) ∧ (mask.getLsbD 5 = true → (value 5).toNat % 16 = 0) := by
  simp [ValuesFit, fieldFits, List.range_succ]

include whole

theorem writeFields_named (t u : Settings) : t.writeFields (namedFields mask) values = some u ↔
    ValuesFit mask values ∧ t.withFields mask values (List.range 6) = u := by
  have all := writeFields_eq_some whole u 6 0 t rfl
  rwa [← List.range_eq_range'] at all

theorem serveWriteSettings_bad (bad : mask = 0 ∨ 64 ≤ mask.toNat ∨ ¬ ValuesFit mask values) (s : State) :
    serveWriteSettings mask values s = refused s .badValue := by
  rw [serveWriteSettings]
  split
  · rfl
  · rename_i fields
    have unfit : ¬ ValuesFit mask values := by
      rcases bad with empty | high | unfit
      · exact absurd (.inl empty) fields
      · exact absurd (.inr high) fields
      · exact unfit
    have none : s.settings.writeFields (namedFields mask) values = none :=
      Option.eq_none_iff_forall_ne_some.2 fun u written => unfit ((writeFields_named whole _ u).1 written).1
    rw [none]

theorem serveWriteSettings_fits (nonempty : mask ≠ 0) (fields : mask.toNat < 64) (fits : ValuesFit mask values)
    (s : State) : serveWriteSettings mask values s =
      if restrictedMask mask ∧ s.mode ≠ .configuration then refused s .mode
      else accepted (s.settingsWritten mask (s.settings.withFields mask values (List.range 6))) := by
  have known : ¬ (mask = 0 ∨ 64 ≤ mask.toNat) := not_or.2 ⟨nonempty, fields.not_ge⟩
  rw [serveWriteSettings, if_neg known, (writeFields_named whole s.settings _).2 ⟨fits, rfl⟩]

end

end Sys2Proof.Machine

open Sys2Proof Sys2Proof.Machine Sys2Proof.Safety

/-- Settles O55: the values fit where each named field's does, and the rest are the checks of R175 in order. -/
theorem writeSettingsWritesTheNamedFields : Obligations.WriteSettingsWritesTheNamedFields := by
  intro tag mask values s free running whole named value fit restricted replies new
  have fit_iff : ValuesFit mask values ↔ fit := valuesFit_iff mask values
  have read : readBody (Request.kind (.writeSettings mask values)) (Request.body (.writeSettings mask values)) =
      some (.writeSettings mask values) :=
    readBody_body _ (beq_iff_eq.2 (whole.trans List.countP_eq_length_filter))
  have serves {status : Status} {change : State → State} (served : _) : replies status change :=
    answered_running free running tag (r := .writeSettings mask values) read served
  refine ⟨fun bad => serves (serveWriteSettings_bad whole (by rwa [fit_iff]) _), fun nonempty fields fits => ?_⟩
  have judged := serveWriteSettings_fits whole nonempty fields (fit_iff.2 fits)
  refine ⟨fun limited outside => serves ?_, fun allowed => serves ?_⟩
  · exact (judged _).trans (if_pos ⟨(restrictedMask_iff mask).2 limited, outside⟩)
  · refine (judged _).trans (if_neg fun ⟨limited, outside⟩ => ?_)
    exact allowed.elim (fun free => free ((restrictedMask_iff mask).1 limited)) outside
end

section
/-! The two cases of a step, along the queue of commands. -/

namespace Sys2Proof.Machine

variable {s : State}

/-- The next state of a step is the one that `exec` gives on the rest of the queue: the command run is no
longer pending while it runs. -/
theorem step_of_pending_cons {c : Instr} {rest : List Instr} (queued : s.pending = c :: rest) :
    step s = exec c { s with pending := rest } := by
  rw [step, queued]

theorem step_of_pending_nil (empty : s.pending = []) : step s = .next s := by
  rw [step, empty]

end Sys2Proof.Machine

open Sys2Proof.Machine

/-- Settles O1: a queue is a command in front of a rest, or it is empty. -/
theorem stepRunsTheFrontCommand : Obligations.StepRunsTheFrontCommand :=
  ⟨fun _ _ _ => step_of_pending_cons rfl, fun _ empty => step_of_pending_nil empty⟩
end
